-- ==== Sys2Proof/Word.lean ====
section
/-! DEFINITION. The machine's two word types (00_scope.md R6: registers of 8 bits, pairs, SP, PC and
addresses of 16 bits). -/

namespace Sys2Proof

/-- An 8-bit value: a register, a byte of memory, an immediate d8, a8 or e8 (R6, R8). -/
abbrev Byte := BitVec 8

/-- A 16-bit value: a register pair, SP, PC, an address, an immediate d16 or a16 (R6, R8). -/
abbrev Word := BitVec 16

end Sys2Proof
end

