-- ==== Sys2Proof/Config.lean ====
section
/-! DEFINITION. The named parameters of 00_scope.md R7 but the two ROM images (those are memory,
log entry 1). They are fixed for a run; State carries them so that a statement about every state is a
statement about every choice of them (log entry 5). -/

namespace Sys2Proof

/-- EXTRAM_OFF_VALUE of R7: "byte, one of 0x00, 0xFF". -/
inductive OffValue where
  | zeros
  | ones
  deriving DecidableEq, Repr

/-- One replaced row of the parameter CYCLES (R7, D29): the row of opcode_table.json (the opcode for the
main page, 256 + op2 for the extended page), its base cost and its taken-branch penalty. -/
structure CycleRow where
  row     : Nat
  base    : Nat
  penalty : Nat
  deriving DecidableEq, Repr

/-- The parameters of R7. -/
structure Params where
  /-- EXTRAM_OFF_VALUE: what disabled external RAM reads as (R62, D13). -/
  extramOff      : OffValue
  /-- UNUSABLE_READ: what 0xFEA0 to 0xFEFF reads as (R68, D17). -/
  unusableRead   : Byte
  /-- EI_DELAY: whether EI waits for the instruction after it (R275, D5). -/
  eiDelay        : Bool
  /-- ROTA_CLEARS_Z: whether RLCA, RRCA, RLA, RRA clear Z (R220, D6). -/
  rotaClearsZ    : Bool
  /-- CYCLES: the rows in which it differs from the default table (R116, D29; log entry 6). -/
  cycles         : List CycleRow
  /-- HALT_IDLE_CYCLES: the cycles of a step while halted (R312, D24). -/
  haltIdleCycles : Nat
  deriving DecidableEq, Repr

/-- The defaults R7 lists. -/
def Params.default : Params where
  extramOff      := .ones
  unusableRead   := 0xFF
  eiDelay        := false
  rotaClearsZ    := false
  cycles         := []
  haltIdleCycles := 4

end Sys2Proof
end

