-- ==== Sys2Proof/Machine/State.lean ====
section
/-! DEFINITION. The machine's state as plain data (10_state.md R20), its fault and refusal reasons, the
state after reset (R46) and the launch state of 70_reset_and_hazards.md R352. -/

namespace Sys2Proof.Machine

/-- The register file (R21, R26, R27). The pairs AF, BC, DE, HL are views, not storage. -/
structure Regs where
  a  : Byte
  f  : Byte
  b  : Byte
  c  : Byte
  d  : Byte
  e  : Byte
  h  : Byte
  l  : Byte
  sp : Word
  pc : Word
  deriving DecidableEq, Repr

/-- The two fatal kinds of 60_exceptions.md R300. A state records one in its field `fault` (R301), and a
step of a state that has recorded one answers it (R47: no further step). -/
inductive Fault where
  /-- Raised by an undefined opcode (R276), safe: "the real CPU locks up" is over-approximated by a stop. -/
  | decodeError (op : Byte)
  /-- Raised by STOP only (R272, R300), safe: nothing can be proved past it. -/
  | executorError (mnemonic : String)
  deriving DecidableEq, Repr

/-- Reasons for which the model has no meaning. -/
inductive Refusal where
  /-- Raised by exec for an instruction without a meaning; safe; no arm of this model raises it. -/
  | notModelled (mnemonic : String)
  deriving DecidableEq, Repr

/-- The MBC1 latches (R32). -/
structure Mbc where
  ramEnable : Bool
  bankLo    : BitVec 5
  bankHi    : BitVec 2
  mode      : Bool
  deriving DecidableEq, Repr

/-- The memory-mapped registers the core itself interprets (R35). Of P1 only the two selector bits are
stored (R38). Every other byte of the I/O block is a cell of memory (20_memory.md R82). -/
structure IoRegs where
  p1Select : BitVec 2
  div      : Byte
  tima     : Byte
  tma      : Byte
  tac      : Byte
  ifReg    : Byte
  lcdc     : Byte
  stat     : Byte
  dma      : Byte
  boot     : Byte
  ie       : Byte
  deriving DecidableEq, Repr

/-- The joypad input (R44): true is pressed. -/
structure Joypad where
  right  : Bool
  left   : Bool
  up     : Bool
  down   : Bool
  a      : Bool
  b      : Bool
  select : Bool
  start  : Bool
  deriving DecidableEq, Repr

/-- The interrupt sources the environment may request (R330: 0, 1, 3 and 4, never the timer). -/
inductive ExtSource where
  | vblank
  | lcdStat
  | serial
  | joypad
  deriving DecidableEq, Repr

/-- One use of a liberty of the environment (R330). -/
inductive EnvEvent where
  /-- Raise a request bit. -/
  | request (src : ExtSource)
  /-- Set the mode and coincidence bits STAT[2:0]. -/
  | setStat (bits : BitVec 3)
  /-- Write a byte of the I/O block at 0xFF00 + offset; no effect on the bytes R330 excepts. -/
  | writeIo (offset : BitVec 7) (v : Byte)
  /-- Change the joypad input. -/
  | setJoypad (j : Joypad)
  deriving DecidableEq, Repr

/-- Storage: (key, byte) cells in a canonical form (Machine/Memory.lean). -/
abbrev Memory := List Host.Cell

/-- The whole state (R20). `eiPending` and `env` are the model's own (log entries 7, 8); `params` and the
ROM images among the cells of `mem` are the parameters of 00_scope.md R7 (log entries 1, 5). -/
structure State where
  regs         : Regs
  /-- IME (R29). -/
  ime          : Bool
  /-- An EI waits for the instruction after it; only when params.eiDelay (R275). -/
  eiPending    : Bool
  /-- R30. -/
  halted       : Bool
  /-- R47. -/
  fault        : Option Fault
  /-- has_booted (R31). -/
  hasBooted    : Bool
  mbc          : Mbc
  /-- dma_remaining (R33). -/
  dmaRemaining : Nat
  /-- div_acc (R34). -/
  divAcc       : Nat
  /-- tima_acc (R34). -/
  timaAcc      : Nat
  io           : IoRegs
  /-- vram, extram, wram, oam, hram, the plain I/O bytes, BOOT_ROM and CART_ROM (R43). -/
  mem          : Memory
  joypad       : Joypad
  params       : Params
  /-- What the environment does at the coming steps, one batch a step (R330). -/
  env          : List (List EnvEvent)
  deriving DecidableEq, Repr

/-- The state after reset: R46 (decision D3) where it gives a value; the general registers, F[7:4], SP,
DMA and BOOT at zero (log entries 3, 4), memory with nothing listed (log entry 2), no button pressed
(log entry 9), the parameters at their defaults (log entry 5), no environment event (log entry 8). -/
def State.reset : State where
  regs         := { a := 0, f := 0, b := 0, c := 0, d := 0, e := 0, h := 0, l := 0, sp := 0, pc := 0 }
  ime          := false
  eiPending    := false
  halted       := false
  fault        := none
  hasBooted    := false
  mbc          := { ramEnable := false, bankLo := 0, bankHi := 0, mode := false }
  dmaRemaining := 0
  divAcc       := 0
  timaAcc      := 0
  io           := { p1Select := 0b11, div := 0, tima := 0, tma := 0, tac := 0, ifReg := 0, lcdc := 0,
                    stat := 0, dma := 0, boot := 0, ie := 0 }
  mem          := []
  joypad       := { right := false, left := false, up := false, down := false,
                    a := false, b := false, select := false, start := false }
  params       := Params.default
  env          := []

/-- The alternative launch state of R352 (decision D4, general knowledge): what the boot ROM leaves. It is
not reset; what R352 leaves unspecified is as in `State.reset` (log entry 15). -/
def State.postBoot : State :=
  { State.reset with
    regs := { a := 0x01, f := 0xB0, b := 0x00, c := 0x13, d := 0x00, e := 0xD8, h := 0x01, l := 0x4D,
              sp := 0xFFFE, pc := 0x0100 }
    hasBooted := true
    io := { State.reset.io with lcdc := 0x91, ifReg := 0xE1 } }

end Sys2Proof.Machine
end

