-- ==== Sys2Proof/Machine/Memory.lean ====
section
/-! DEFINITION. Storage: one list of (key, byte) cells, keys rising, no cell equal to what an unlisted key reads as, so
that equal storages are equal lists. The key of a byte of vram, wram, oam, hram or of a plain I/O byte is its bus
address; external RAM, BOOT_ROM and CART_ROM have keys above the bus (log entry 1). -/

namespace Sys2Proof.Machine

/-- Key of byte 0 of `extram` (32 KB, 10_state.md R43). -/
def extramBase : Nat := 0x10000

/-- Key of byte 0 of BOOT_ROM (256 bytes, R43). -/
def bootRomBase : Nat := 0x20000

/-- Key of byte 0 of CART_ROM (21-bit offsets, 00_scope.md R7). -/
def cartRomBase : Nat := 0x200000

/-- What an unlisted key reads as: 0xFF in the two ROM images, 0x00 elsewhere (DESIGN CHOICE, unsafe, log entry 2). -/
def unlisted (k : Nat) : Byte := if k < bootRomBase then 0x00 else 0xFF

/-- Read one cell. The search stops at the first key not below `k`. -/
def Memory.read (m : Memory) (k : Nat) : Byte :=
  match m with
  | [] => unlisted k
  | (k', v) :: t => if k' < k then Memory.read t k else if k' = k then v else unlisted k

/-- Put a cell before the cells of higher key; a cell that says what unlisted says is left out. -/
def Memory.cons (k : Nat) (v : Byte) (m : Memory) : Memory :=
  if v = unlisted k then m else (k, v) :: m

/-- Write one cell. On a rising list the cells dropped are the one of key `k`, if there is one. -/
def Memory.write (m : Memory) (k : Nat) (v : Byte) : Memory :=
  match m with
  | [] => Memory.cons k v []
  | (k', v') :: t =>
    if k' < k then (k', v') :: Memory.write t k v
    else Memory.cons k v (((k', v') :: t).dropWhile (fun c => decide (c.1 ≤ k)))

/-- Keys rise from `lo` on and no cell says what unlisted says. -/
def Memory.wfFrom (lo : Nat) (m : Memory) : Bool :=
  match m with
  | [] => true
  | (k, v) :: t => decide (lo ≤ k) && (v != unlisted k) && Memory.wfFrom (k + 1) t

/-- The canonical form. -/
def Memory.wf (m : Memory) : Bool := Memory.wfFrom 0 m

end Sys2Proof.Machine
end

