-- ==== Sys2Proof/Syntax.lean ====
section
/-! DEFINITION. The instructions as syntax: the operand tables of 00_scope.md R10 as closed types, and one
constructor of `Instr` per row of opcode_table.json (the eleven undefined bytes share the mnemonic UNDEFINED
and the constructor `undefined`, log entry 14). A constructor's name is the row's mnemonic in camel case, `At`
standing for the parentheses of a memory operand: `ldAAtHlInc` is `LD A,(HL+)`. -/

namespace Sys2Proof

/-- The registers an `r8` index names (R10; index 6 is memory, see `Opd8`). -/
inductive Reg8 where
  | b | c | d | e | h | l | a
  deriving DecidableEq, Repr

/-- An `r8` operand: a register, or the byte at HL (R10, index 6). -/
inductive Opd8 where
  | reg (r : Reg8)
  | atHl
  deriving DecidableEq, Repr

/-- The table `r16` of R10. -/
inductive Reg16 where
  | bc | de | hl | sp
  deriving DecidableEq, Repr

/-- The table `r16stk` of R10. -/
inductive Stk16 where
  | bc | de | hl | af
  deriving DecidableEq, Repr

/-- The table `cc` of R10. -/
inductive Cond where
  | nz | z | nc | c
  deriving DecidableEq, Repr

/-- The table `alu` of R10. -/
inductive AluOp where
  | add | adc | sub | sbc | and | xor | or | cp
  deriving DecidableEq, Repr

/-- The table `rot` of R10. -/
inductive RotOp where
  | rlc | rrc | rl | rr | sla | sra | swap | srl
  deriving DecidableEq, Repr

/-- A 3-bit field of an opcode (R102: y and z), also a bit number (R232 to R234) and an RST index (R260). -/
inductive Octal where
  | o0 | o1 | o2 | o3 | o4 | o5 | o6 | o7
  deriving DecidableEq, Repr

/-- The number an `Octal` stands for. -/
def Octal.toNat : Octal → Nat
  | .o0 => 0
  | .o1 => 1
  | .o2 => 2
  | .o3 => 3
  | .o4 => 4
  | .o5 => 5
  | .o6 => 6
  | .o7 => 7

/-- The instructions: those with an immediate first, then the others, each group in the table's order (the Lean runtime
numbers constructors that carry data up to 244 only). -/
inductive Instr where
  | ldBcD16 (d16 : Word)
  | ldBD8 (d8 : Byte)
  | ldAtA16Sp (a16 : Word)
  | ldCD8 (d8 : Byte)
  | stop (pad : Byte)
  | ldDeD16 (d16 : Word)
  | ldDD8 (d8 : Byte)
  | jrE8 (e8 : Byte)
  | ldED8 (d8 : Byte)
  | jrNzE8 (e8 : Byte)
  | ldHlD16 (d16 : Word)
  | ldHD8 (d8 : Byte)
  | jrZE8 (e8 : Byte)
  | ldLD8 (d8 : Byte)
  | jrNcE8 (e8 : Byte)
  | ldSpD16 (d16 : Word)
  | ldAtHlD8 (d8 : Byte)
  | jrCE8 (e8 : Byte)
  | ldAD8 (d8 : Byte)
  | jpNzA16 (a16 : Word)
  | jpA16 (a16 : Word)
  | callNzA16 (a16 : Word)
  | addAD8 (d8 : Byte)
  | jpZA16 (a16 : Word)
  | prefixCb (op2 : Byte)
  | callZA16 (a16 : Word)
  | callA16 (a16 : Word)
  | adcAD8 (d8 : Byte)
  | jpNcA16 (a16 : Word)
  | undefined (op : Byte)
  | callNcA16 (a16 : Word)
  | subD8 (d8 : Byte)
  | jpCA16 (a16 : Word)
  | callCA16 (a16 : Word)
  | sbcAD8 (d8 : Byte)
  | ldhAtA8A (a8 : Byte)
  | andD8 (d8 : Byte)
  | addSpE8 (e8 : Byte)
  | ldAtA16A (a16 : Word)
  | xorD8 (d8 : Byte)
  | ldhAAtA8 (a8 : Byte)
  | orD8 (d8 : Byte)
  | ldhlSpE8 (e8 : Byte)
  | ldAAtA16 (a16 : Word)
  | cpD8 (d8 : Byte)
  | nop
  | ldAtBcA
  | incBc
  | incB
  | decB
  | rlca
  | addHlBc
  | ldAAtBc
  | decBc
  | incC
  | decC
  | rrca
  | ldAtDeA
  | incDe
  | incD
  | decD
  | rla
  | addHlDe
  | ldAAtDe
  | decDe
  | incE
  | decE
  | rra
  | ldAtHlIncA
  | incHl
  | incH
  | decH
  | daa
  | addHlHl
  | ldAAtHlInc
  | decHl
  | incL
  | decL
  | cpl
  | ldAtHlDecA
  | incSp
  | incAtHl
  | decAtHl
  | scf
  | addHlSp
  | ldAAtHlDec
  | decSp
  | incA
  | decA
  | ccf
  | ldBB
  | ldBC
  | ldBD
  | ldBE
  | ldBH
  | ldBL
  | ldBAtHl
  | ldBA
  | ldCB
  | ldCC
  | ldCD
  | ldCE
  | ldCH
  | ldCL
  | ldCAtHl
  | ldCA
  | ldDB
  | ldDC
  | ldDD
  | ldDE
  | ldDH
  | ldDL
  | ldDAtHl
  | ldDA
  | ldEB
  | ldEC
  | ldED
  | ldEE
  | ldEH
  | ldEL
  | ldEAtHl
  | ldEA
  | ldHB
  | ldHC
  | ldHD
  | ldHE
  | ldHH
  | ldHL
  | ldHAtHl
  | ldHA
  | ldLB
  | ldLC
  | ldLD
  | ldLE
  | ldLH
  | ldLL
  | ldLAtHl
  | ldLA
  | ldAtHlB
  | ldAtHlC
  | ldAtHlD
  | ldAtHlE
  | ldAtHlH
  | ldAtHlL
  | halt
  | ldAtHlA
  | ldAB
  | ldAC
  | ldAD
  | ldAE
  | ldAH
  | ldAL
  | ldAAtHl
  | ldAA
  | addAB
  | addAC
  | addAD
  | addAE
  | addAH
  | addAL
  | addAAtHl
  | addAA
  | adcAB
  | adcAC
  | adcAD
  | adcAE
  | adcAH
  | adcAL
  | adcAAtHl
  | adcAA
  | subB
  | subC
  | subD
  | subE
  | subH
  | subL
  | subAtHl
  | subA
  | sbcAB
  | sbcAC
  | sbcAD
  | sbcAE
  | sbcAH
  | sbcAL
  | sbcAAtHl
  | sbcAA
  | andB
  | andC
  | andD
  | andE
  | andH
  | andL
  | andAtHl
  | andA
  | xorB
  | xorC
  | xorD
  | xorE
  | xorH
  | xorL
  | xorAtHl
  | xorA
  | orB
  | orC
  | orD
  | orE
  | orH
  | orL
  | orAtHl
  | orA
  | cpB
  | cpC
  | cpD
  | cpE
  | cpH
  | cpL
  | cpAtHl
  | cpA
  | retNz
  | popBc
  | pushBc
  | rst00
  | retZ
  | ret
  | rst08
  | retNc
  | popDe
  | pushDe
  | rst10
  | retC
  | reti
  | rst18
  | popHl
  | ldAtCA
  | pushHl
  | rst20
  | jpHl
  | rst28
  | popAf
  | ldAAtC
  | di
  | pushAf
  | rst30
  | ldSpHl
  | ei
  | rst38
  | rlcB
  | rlcC
  | rlcD
  | rlcE
  | rlcH
  | rlcL
  | rlcAtHl
  | rlcA
  | rrcB
  | rrcC
  | rrcD
  | rrcE
  | rrcH
  | rrcL
  | rrcAtHl
  | rrcA
  | rlB
  | rlC
  | rlD
  | rlE
  | rlH
  | rlL
  | rlAtHl
  | rlA
  | rrB
  | rrC
  | rrD
  | rrE
  | rrH
  | rrL
  | rrAtHl
  | rrA
  | slaB
  | slaC
  | slaD
  | slaE
  | slaH
  | slaL
  | slaAtHl
  | slaA
  | sraB
  | sraC
  | sraD
  | sraE
  | sraH
  | sraL
  | sraAtHl
  | sraA
  | swapB
  | swapC
  | swapD
  | swapE
  | swapH
  | swapL
  | swapAtHl
  | swapA
  | srlB
  | srlC
  | srlD
  | srlE
  | srlH
  | srlL
  | srlAtHl
  | srlA
  | bit0B
  | bit0C
  | bit0D
  | bit0E
  | bit0H
  | bit0L
  | bit0AtHl
  | bit0A
  | bit1B
  | bit1C
  | bit1D
  | bit1E
  | bit1H
  | bit1L
  | bit1AtHl
  | bit1A
  | bit2B
  | bit2C
  | bit2D
  | bit2E
  | bit2H
  | bit2L
  | bit2AtHl
  | bit2A
  | bit3B
  | bit3C
  | bit3D
  | bit3E
  | bit3H
  | bit3L
  | bit3AtHl
  | bit3A
  | bit4B
  | bit4C
  | bit4D
  | bit4E
  | bit4H
  | bit4L
  | bit4AtHl
  | bit4A
  | bit5B
  | bit5C
  | bit5D
  | bit5E
  | bit5H
  | bit5L
  | bit5AtHl
  | bit5A
  | bit6B
  | bit6C
  | bit6D
  | bit6E
  | bit6H
  | bit6L
  | bit6AtHl
  | bit6A
  | bit7B
  | bit7C
  | bit7D
  | bit7E
  | bit7H
  | bit7L
  | bit7AtHl
  | bit7A
  | res0B
  | res0C
  | res0D
  | res0E
  | res0H
  | res0L
  | res0AtHl
  | res0A
  | res1B
  | res1C
  | res1D
  | res1E
  | res1H
  | res1L
  | res1AtHl
  | res1A
  | res2B
  | res2C
  | res2D
  | res2E
  | res2H
  | res2L
  | res2AtHl
  | res2A
  | res3B
  | res3C
  | res3D
  | res3E
  | res3H
  | res3L
  | res3AtHl
  | res3A
  | res4B
  | res4C
  | res4D
  | res4E
  | res4H
  | res4L
  | res4AtHl
  | res4A
  | res5B
  | res5C
  | res5D
  | res5E
  | res5H
  | res5L
  | res5AtHl
  | res5A
  | res6B
  | res6C
  | res6D
  | res6E
  | res6H
  | res6L
  | res6AtHl
  | res6A
  | res7B
  | res7C
  | res7D
  | res7E
  | res7H
  | res7L
  | res7AtHl
  | res7A
  | set0B
  | set0C
  | set0D
  | set0E
  | set0H
  | set0L
  | set0AtHl
  | set0A
  | set1B
  | set1C
  | set1D
  | set1E
  | set1H
  | set1L
  | set1AtHl
  | set1A
  | set2B
  | set2C
  | set2D
  | set2E
  | set2H
  | set2L
  | set2AtHl
  | set2A
  | set3B
  | set3C
  | set3D
  | set3E
  | set3H
  | set3L
  | set3AtHl
  | set3A
  | set4B
  | set4C
  | set4D
  | set4E
  | set4H
  | set4L
  | set4AtHl
  | set4A
  | set5B
  | set5C
  | set5D
  | set5E
  | set5H
  | set5L
  | set5AtHl
  | set5A
  | set6B
  | set6C
  | set6D
  | set6E
  | set6H
  | set6L
  | set6AtHl
  | set6A
  | set7B
  | set7C
  | set7D
  | set7E
  | set7H
  | set7L
  | set7AtHl
  | set7A
  deriving DecidableEq, Repr

end Sys2Proof
end

