-- ==== Sys2Proof/WellFormed.lean ====
section
/-! DEFINITION. Which terms of `Instr` stand for an instruction of the machine. Operands are bit vectors of the width
the encoding has for them, so only two constructors carry a check. -/

namespace Sys2Proof

/-- The eleven undefined main-page opcodes (30_encoding.md R109). -/
def undefinedOpcodes : List Byte :=
  [0xD3, 0xDB, 0xDD, 0xE3, 0xE4, 0xEB, 0xEC, 0xED, 0xF4, 0xFC, 0xFD]

/-- `undefined` names one of the eleven bytes (R109); the prefix is not an instruction by itself (R274): its pair with
a second byte is the extended page's instruction (log entry 13). -/
def Instr.wellFormed (i : Instr) : Bool :=
  match i with
  | .undefined op => undefinedOpcodes.contains op
  | .prefixCb _ => false
  | _ => true

end Sys2Proof
end

