-- ==== Sys2Proof/Decode.lean ====
section
/-! DEFINITION. From bytes to instructions and back: the opcode fields of 30_encoding.md R102, the quadrant tables
R103 to R107, the lengths R112, the encoder, and the default table of cycle costs R116, R117. -/

namespace Sys2Proof

/-! ## Bytes and words (00_scope.md R8, R11, D1) -/

/-- `hi ++ lo`, the high byte first. -/
def wordOf (hi lo : Byte) : Word := hi ++ lo

/-- Bits 15:8. -/
def hiByte (w : Word) : Byte := w.extractLsb' 8 8

/-- Bits 7:0. -/
def loByte (w : Word) : Byte := w.extractLsb' 0 8

/-- `0xFF ++ a8`: the high page (R108, D38). -/
def highPage (a8 : Byte) : Word := wordOf 0xFF a8

/-- `sext_16(e8)` (R8, R108). -/
def sext16 (e8 : Byte) : Word := e8.signExtend 16

/-! ## Opcode fields (R102) and the operand tables they index (R10) -/

/-- The octal digit of a 3-bit field. -/
def octalOf (v : BitVec 3) : Octal :=
  match v.toNat with
  | 0 => .o0
  | 1 => .o1
  | 2 => .o2
  | 3 => .o3
  | 4 => .o4
  | 5 => .o5
  | 6 => .o6
  | _ => .o7

/-- The field x, bits 7:6. -/
def fieldX (op : Byte) : Nat := (op.extractLsb' 6 2).toNat

/-- The field y, bits 5:3. -/
def fieldY (op : Byte) : Octal := octalOf (op.extractLsb' 3 3)

/-- The field z, bits 2:0. -/
def fieldZ (op : Byte) : Octal := octalOf (op.extractLsb' 0 3)

/-- The table `r8` (R10). -/
def r8Table : Octal → Opd8
  | .o0 => .reg .b
  | .o1 => .reg .c
  | .o2 => .reg .d
  | .o3 => .reg .e
  | .o4 => .reg .h
  | .o5 => .reg .l
  | .o6 => .atHl
  | .o7 => .reg .a

/-- The table `alu` (R10). -/
def aluTable : Octal → AluOp
  | .o0 => .add
  | .o1 => .adc
  | .o2 => .sub
  | .o3 => .sbc
  | .o4 => .and
  | .o5 => .xor
  | .o6 => .or
  | .o7 => .cp

/-- The table `rot` (R10; the order is C1's). -/
def rotTable : Octal → RotOp
  | .o0 => .rlc
  | .o1 => .rrc
  | .o2 => .rl
  | .o3 => .rr
  | .o4 => .sla
  | .o5 => .sra
  | .o6 => .swap
  | .o7 => .srl

/-! ## The instruction a row's operands select -/

/-- `LD r8[y],r8[z]`, and HALT at y = z = 6 (R104). -/
def mkLd (y z : Opd8) : Instr :=
  match y, z with
  | .reg .b, .reg .b => .ldBB
  | .reg .b, .reg .c => .ldBC
  | .reg .b, .reg .d => .ldBD
  | .reg .b, .reg .e => .ldBE
  | .reg .b, .reg .h => .ldBH
  | .reg .b, .reg .l => .ldBL
  | .reg .b, .atHl => .ldBAtHl
  | .reg .b, .reg .a => .ldBA
  | .reg .c, .reg .b => .ldCB
  | .reg .c, .reg .c => .ldCC
  | .reg .c, .reg .d => .ldCD
  | .reg .c, .reg .e => .ldCE
  | .reg .c, .reg .h => .ldCH
  | .reg .c, .reg .l => .ldCL
  | .reg .c, .atHl => .ldCAtHl
  | .reg .c, .reg .a => .ldCA
  | .reg .d, .reg .b => .ldDB
  | .reg .d, .reg .c => .ldDC
  | .reg .d, .reg .d => .ldDD
  | .reg .d, .reg .e => .ldDE
  | .reg .d, .reg .h => .ldDH
  | .reg .d, .reg .l => .ldDL
  | .reg .d, .atHl => .ldDAtHl
  | .reg .d, .reg .a => .ldDA
  | .reg .e, .reg .b => .ldEB
  | .reg .e, .reg .c => .ldEC
  | .reg .e, .reg .d => .ldED
  | .reg .e, .reg .e => .ldEE
  | .reg .e, .reg .h => .ldEH
  | .reg .e, .reg .l => .ldEL
  | .reg .e, .atHl => .ldEAtHl
  | .reg .e, .reg .a => .ldEA
  | .reg .h, .reg .b => .ldHB
  | .reg .h, .reg .c => .ldHC
  | .reg .h, .reg .d => .ldHD
  | .reg .h, .reg .e => .ldHE
  | .reg .h, .reg .h => .ldHH
  | .reg .h, .reg .l => .ldHL
  | .reg .h, .atHl => .ldHAtHl
  | .reg .h, .reg .a => .ldHA
  | .reg .l, .reg .b => .ldLB
  | .reg .l, .reg .c => .ldLC
  | .reg .l, .reg .d => .ldLD
  | .reg .l, .reg .e => .ldLE
  | .reg .l, .reg .h => .ldLH
  | .reg .l, .reg .l => .ldLL
  | .reg .l, .atHl => .ldLAtHl
  | .reg .l, .reg .a => .ldLA
  | .atHl, .reg .b => .ldAtHlB
  | .atHl, .reg .c => .ldAtHlC
  | .atHl, .reg .d => .ldAtHlD
  | .atHl, .reg .e => .ldAtHlE
  | .atHl, .reg .h => .ldAtHlH
  | .atHl, .reg .l => .ldAtHlL
  | .atHl, .atHl => .halt
  | .atHl, .reg .a => .ldAtHlA
  | .reg .a, .reg .b => .ldAB
  | .reg .a, .reg .c => .ldAC
  | .reg .a, .reg .d => .ldAD
  | .reg .a, .reg .e => .ldAE
  | .reg .a, .reg .h => .ldAH
  | .reg .a, .reg .l => .ldAL
  | .reg .a, .atHl => .ldAAtHl
  | .reg .a, .reg .a => .ldAA

/-- `alu[y] A,r8[z]` (R105). -/
def mkAlu (op : AluOp) (z : Opd8) : Instr :=
  match op, z with
  | .add, .reg .b => .addAB
  | .add, .reg .c => .addAC
  | .add, .reg .d => .addAD
  | .add, .reg .e => .addAE
  | .add, .reg .h => .addAH
  | .add, .reg .l => .addAL
  | .add, .atHl => .addAAtHl
  | .add, .reg .a => .addAA
  | .adc, .reg .b => .adcAB
  | .adc, .reg .c => .adcAC
  | .adc, .reg .d => .adcAD
  | .adc, .reg .e => .adcAE
  | .adc, .reg .h => .adcAH
  | .adc, .reg .l => .adcAL
  | .adc, .atHl => .adcAAtHl
  | .adc, .reg .a => .adcAA
  | .sub, .reg .b => .subB
  | .sub, .reg .c => .subC
  | .sub, .reg .d => .subD
  | .sub, .reg .e => .subE
  | .sub, .reg .h => .subH
  | .sub, .reg .l => .subL
  | .sub, .atHl => .subAtHl
  | .sub, .reg .a => .subA
  | .sbc, .reg .b => .sbcAB
  | .sbc, .reg .c => .sbcAC
  | .sbc, .reg .d => .sbcAD
  | .sbc, .reg .e => .sbcAE
  | .sbc, .reg .h => .sbcAH
  | .sbc, .reg .l => .sbcAL
  | .sbc, .atHl => .sbcAAtHl
  | .sbc, .reg .a => .sbcAA
  | .and, .reg .b => .andB
  | .and, .reg .c => .andC
  | .and, .reg .d => .andD
  | .and, .reg .e => .andE
  | .and, .reg .h => .andH
  | .and, .reg .l => .andL
  | .and, .atHl => .andAtHl
  | .and, .reg .a => .andA
  | .xor, .reg .b => .xorB
  | .xor, .reg .c => .xorC
  | .xor, .reg .d => .xorD
  | .xor, .reg .e => .xorE
  | .xor, .reg .h => .xorH
  | .xor, .reg .l => .xorL
  | .xor, .atHl => .xorAtHl
  | .xor, .reg .a => .xorA
  | .or, .reg .b => .orB
  | .or, .reg .c => .orC
  | .or, .reg .d => .orD
  | .or, .reg .e => .orE
  | .or, .reg .h => .orH
  | .or, .reg .l => .orL
  | .or, .atHl => .orAtHl
  | .or, .reg .a => .orA
  | .cp, .reg .b => .cpB
  | .cp, .reg .c => .cpC
  | .cp, .reg .d => .cpD
  | .cp, .reg .e => .cpE
  | .cp, .reg .h => .cpH
  | .cp, .reg .l => .cpL
  | .cp, .atHl => .cpAtHl
  | .cp, .reg .a => .cpA

/-- `alu[y] A,d8` (R106, z = 6). -/
def mkAluImm (op : AluOp) (d8 : Byte) : Instr :=
  match op with
  | .add => .addAD8 d8
  | .adc => .adcAD8 d8
  | .sub => .subD8 d8
  | .sbc => .sbcAD8 d8
  | .and => .andD8 d8
  | .xor => .xorD8 d8
  | .or => .orD8 d8
  | .cp => .cpD8 d8

/-- `INC r8[y]` (R103, z = 4). -/
def mkInc8 (y : Opd8) : Instr :=
  match y with
  | .reg .b => .incB
  | .reg .c => .incC
  | .reg .d => .incD
  | .reg .e => .incE
  | .reg .h => .incH
  | .reg .l => .incL
  | .atHl => .incAtHl
  | .reg .a => .incA

/-- `DEC r8[y]` (R103, z = 5). -/
def mkDec8 (y : Opd8) : Instr :=
  match y with
  | .reg .b => .decB
  | .reg .c => .decC
  | .reg .d => .decD
  | .reg .e => .decE
  | .reg .h => .decH
  | .reg .l => .decL
  | .atHl => .decAtHl
  | .reg .a => .decA

/-- `LD r8[y],d8` (R103, z = 6). -/
def mkLdImm (y : Opd8) (d8 : Byte) : Instr :=
  match y with
  | .reg .b => .ldBD8 d8
  | .reg .c => .ldCD8 d8
  | .reg .d => .ldDD8 d8
  | .reg .e => .ldED8 d8
  | .reg .h => .ldHD8 d8
  | .reg .l => .ldLD8 d8
  | .atHl => .ldAtHlD8 d8
  | .reg .a => .ldAD8 d8

/-- `LD r16[p],d16` (R103, z = 1, q = 0). -/
def mkLd16 (p : Reg16) (d16 : Word) : Instr :=
  match p with
  | .bc => .ldBcD16 d16
  | .de => .ldDeD16 d16
  | .hl => .ldHlD16 d16
  | .sp => .ldSpD16 d16

/-- `ADD HL,r16[p]` (R103, z = 1, q = 1). -/
def mkAddHl (p : Reg16) : Instr :=
  match p with
  | .bc => .addHlBc
  | .de => .addHlDe
  | .hl => .addHlHl
  | .sp => .addHlSp

/-- `INC r16[p]` (R103, z = 3, q = 0). -/
def mkInc16 (p : Reg16) : Instr :=
  match p with
  | .bc => .incBc
  | .de => .incDe
  | .hl => .incHl
  | .sp => .incSp

/-- `DEC r16[p]` (R103, z = 3, q = 1). -/
def mkDec16 (p : Reg16) : Instr :=
  match p with
  | .bc => .decBc
  | .de => .decDe
  | .hl => .decHl
  | .sp => .decSp

/-- `POP r16stk[p]` (R106, z = 1, q = 0). -/
def mkPop (p : Stk16) : Instr :=
  match p with
  | .bc => .popBc
  | .de => .popDe
  | .hl => .popHl
  | .af => .popAf

/-- `PUSH r16stk[p]` (R106, z = 5, q = 0). -/
def mkPush (p : Stk16) : Instr :=
  match p with
  | .bc => .pushBc
  | .de => .pushDe
  | .hl => .pushHl
  | .af => .pushAf

/-- `JR cc,e8` (R103, z = 0). -/
def mkJr (cc : Cond) (e8 : Byte) : Instr :=
  match cc with
  | .nz => .jrNzE8 e8
  | .z => .jrZE8 e8
  | .nc => .jrNcE8 e8
  | .c => .jrCE8 e8

/-- `JP cc,a16` (R106, z = 2). -/
def mkJp (cc : Cond) (a16 : Word) : Instr :=
  match cc with
  | .nz => .jpNzA16 a16
  | .z => .jpZA16 a16
  | .nc => .jpNcA16 a16
  | .c => .jpCA16 a16

/-- `CALL cc,a16` (R106, z = 4). -/
def mkCall (cc : Cond) (a16 : Word) : Instr :=
  match cc with
  | .nz => .callNzA16 a16
  | .z => .callZA16 a16
  | .nc => .callNcA16 a16
  | .c => .callCA16 a16

/-- `RET cc` (R106, z = 0). -/
def mkRet (cc : Cond) : Instr :=
  match cc with
  | .nz => .retNz
  | .z => .retZ
  | .nc => .retNc
  | .c => .retC

/-- `RST 8*y` (R106, z = 7). -/
def mkRst (y : Octal) : Instr :=
  match y with
  | .o0 => .rst00
  | .o1 => .rst08
  | .o2 => .rst10
  | .o3 => .rst18
  | .o4 => .rst20
  | .o5 => .rst28
  | .o6 => .rst30
  | .o7 => .rst38

/-- `rot[y] r8[z]` (R107, quadrant 0). -/
def mkRot (op : RotOp) (z : Opd8) : Instr :=
  match op, z with
  | .rlc, .reg .b => .rlcB
  | .rlc, .reg .c => .rlcC
  | .rlc, .reg .d => .rlcD
  | .rlc, .reg .e => .rlcE
  | .rlc, .reg .h => .rlcH
  | .rlc, .reg .l => .rlcL
  | .rlc, .atHl => .rlcAtHl
  | .rlc, .reg .a => .rlcA
  | .rrc, .reg .b => .rrcB
  | .rrc, .reg .c => .rrcC
  | .rrc, .reg .d => .rrcD
  | .rrc, .reg .e => .rrcE
  | .rrc, .reg .h => .rrcH
  | .rrc, .reg .l => .rrcL
  | .rrc, .atHl => .rrcAtHl
  | .rrc, .reg .a => .rrcA
  | .rl, .reg .b => .rlB
  | .rl, .reg .c => .rlC
  | .rl, .reg .d => .rlD
  | .rl, .reg .e => .rlE
  | .rl, .reg .h => .rlH
  | .rl, .reg .l => .rlL
  | .rl, .atHl => .rlAtHl
  | .rl, .reg .a => .rlA
  | .rr, .reg .b => .rrB
  | .rr, .reg .c => .rrC
  | .rr, .reg .d => .rrD
  | .rr, .reg .e => .rrE
  | .rr, .reg .h => .rrH
  | .rr, .reg .l => .rrL
  | .rr, .atHl => .rrAtHl
  | .rr, .reg .a => .rrA
  | .sla, .reg .b => .slaB
  | .sla, .reg .c => .slaC
  | .sla, .reg .d => .slaD
  | .sla, .reg .e => .slaE
  | .sla, .reg .h => .slaH
  | .sla, .reg .l => .slaL
  | .sla, .atHl => .slaAtHl
  | .sla, .reg .a => .slaA
  | .sra, .reg .b => .sraB
  | .sra, .reg .c => .sraC
  | .sra, .reg .d => .sraD
  | .sra, .reg .e => .sraE
  | .sra, .reg .h => .sraH
  | .sra, .reg .l => .sraL
  | .sra, .atHl => .sraAtHl
  | .sra, .reg .a => .sraA
  | .swap, .reg .b => .swapB
  | .swap, .reg .c => .swapC
  | .swap, .reg .d => .swapD
  | .swap, .reg .e => .swapE
  | .swap, .reg .h => .swapH
  | .swap, .reg .l => .swapL
  | .swap, .atHl => .swapAtHl
  | .swap, .reg .a => .swapA
  | .srl, .reg .b => .srlB
  | .srl, .reg .c => .srlC
  | .srl, .reg .d => .srlD
  | .srl, .reg .e => .srlE
  | .srl, .reg .h => .srlH
  | .srl, .reg .l => .srlL
  | .srl, .atHl => .srlAtHl
  | .srl, .reg .a => .srlA

/-- `BIT y,r8[z]` (R107, quadrant 1). -/
def mkBit (y : Octal) (z : Opd8) : Instr :=
  match y, z with
  | .o0, .reg .b => .bit0B
  | .o0, .reg .c => .bit0C
  | .o0, .reg .d => .bit0D
  | .o0, .reg .e => .bit0E
  | .o0, .reg .h => .bit0H
  | .o0, .reg .l => .bit0L
  | .o0, .atHl => .bit0AtHl
  | .o0, .reg .a => .bit0A
  | .o1, .reg .b => .bit1B
  | .o1, .reg .c => .bit1C
  | .o1, .reg .d => .bit1D
  | .o1, .reg .e => .bit1E
  | .o1, .reg .h => .bit1H
  | .o1, .reg .l => .bit1L
  | .o1, .atHl => .bit1AtHl
  | .o1, .reg .a => .bit1A
  | .o2, .reg .b => .bit2B
  | .o2, .reg .c => .bit2C
  | .o2, .reg .d => .bit2D
  | .o2, .reg .e => .bit2E
  | .o2, .reg .h => .bit2H
  | .o2, .reg .l => .bit2L
  | .o2, .atHl => .bit2AtHl
  | .o2, .reg .a => .bit2A
  | .o3, .reg .b => .bit3B
  | .o3, .reg .c => .bit3C
  | .o3, .reg .d => .bit3D
  | .o3, .reg .e => .bit3E
  | .o3, .reg .h => .bit3H
  | .o3, .reg .l => .bit3L
  | .o3, .atHl => .bit3AtHl
  | .o3, .reg .a => .bit3A
  | .o4, .reg .b => .bit4B
  | .o4, .reg .c => .bit4C
  | .o4, .reg .d => .bit4D
  | .o4, .reg .e => .bit4E
  | .o4, .reg .h => .bit4H
  | .o4, .reg .l => .bit4L
  | .o4, .atHl => .bit4AtHl
  | .o4, .reg .a => .bit4A
  | .o5, .reg .b => .bit5B
  | .o5, .reg .c => .bit5C
  | .o5, .reg .d => .bit5D
  | .o5, .reg .e => .bit5E
  | .o5, .reg .h => .bit5H
  | .o5, .reg .l => .bit5L
  | .o5, .atHl => .bit5AtHl
  | .o5, .reg .a => .bit5A
  | .o6, .reg .b => .bit6B
  | .o6, .reg .c => .bit6C
  | .o6, .reg .d => .bit6D
  | .o6, .reg .e => .bit6E
  | .o6, .reg .h => .bit6H
  | .o6, .reg .l => .bit6L
  | .o6, .atHl => .bit6AtHl
  | .o6, .reg .a => .bit6A
  | .o7, .reg .b => .bit7B
  | .o7, .reg .c => .bit7C
  | .o7, .reg .d => .bit7D
  | .o7, .reg .e => .bit7E
  | .o7, .reg .h => .bit7H
  | .o7, .reg .l => .bit7L
  | .o7, .atHl => .bit7AtHl
  | .o7, .reg .a => .bit7A

/-- `RES y,r8[z]` (R107, quadrant 2). -/
def mkRes (y : Octal) (z : Opd8) : Instr :=
  match y, z with
  | .o0, .reg .b => .res0B
  | .o0, .reg .c => .res0C
  | .o0, .reg .d => .res0D
  | .o0, .reg .e => .res0E
  | .o0, .reg .h => .res0H
  | .o0, .reg .l => .res0L
  | .o0, .atHl => .res0AtHl
  | .o0, .reg .a => .res0A
  | .o1, .reg .b => .res1B
  | .o1, .reg .c => .res1C
  | .o1, .reg .d => .res1D
  | .o1, .reg .e => .res1E
  | .o1, .reg .h => .res1H
  | .o1, .reg .l => .res1L
  | .o1, .atHl => .res1AtHl
  | .o1, .reg .a => .res1A
  | .o2, .reg .b => .res2B
  | .o2, .reg .c => .res2C
  | .o2, .reg .d => .res2D
  | .o2, .reg .e => .res2E
  | .o2, .reg .h => .res2H
  | .o2, .reg .l => .res2L
  | .o2, .atHl => .res2AtHl
  | .o2, .reg .a => .res2A
  | .o3, .reg .b => .res3B
  | .o3, .reg .c => .res3C
  | .o3, .reg .d => .res3D
  | .o3, .reg .e => .res3E
  | .o3, .reg .h => .res3H
  | .o3, .reg .l => .res3L
  | .o3, .atHl => .res3AtHl
  | .o3, .reg .a => .res3A
  | .o4, .reg .b => .res4B
  | .o4, .reg .c => .res4C
  | .o4, .reg .d => .res4D
  | .o4, .reg .e => .res4E
  | .o4, .reg .h => .res4H
  | .o4, .reg .l => .res4L
  | .o4, .atHl => .res4AtHl
  | .o4, .reg .a => .res4A
  | .o5, .reg .b => .res5B
  | .o5, .reg .c => .res5C
  | .o5, .reg .d => .res5D
  | .o5, .reg .e => .res5E
  | .o5, .reg .h => .res5H
  | .o5, .reg .l => .res5L
  | .o5, .atHl => .res5AtHl
  | .o5, .reg .a => .res5A
  | .o6, .reg .b => .res6B
  | .o6, .reg .c => .res6C
  | .o6, .reg .d => .res6D
  | .o6, .reg .e => .res6E
  | .o6, .reg .h => .res6H
  | .o6, .reg .l => .res6L
  | .o6, .atHl => .res6AtHl
  | .o6, .reg .a => .res6A
  | .o7, .reg .b => .res7B
  | .o7, .reg .c => .res7C
  | .o7, .reg .d => .res7D
  | .o7, .reg .e => .res7E
  | .o7, .reg .h => .res7H
  | .o7, .reg .l => .res7L
  | .o7, .atHl => .res7AtHl
  | .o7, .reg .a => .res7A

/-- `SET y,r8[z]` (R107, quadrant 3). -/
def mkSet (y : Octal) (z : Opd8) : Instr :=
  match y, z with
  | .o0, .reg .b => .set0B
  | .o0, .reg .c => .set0C
  | .o0, .reg .d => .set0D
  | .o0, .reg .e => .set0E
  | .o0, .reg .h => .set0H
  | .o0, .reg .l => .set0L
  | .o0, .atHl => .set0AtHl
  | .o0, .reg .a => .set0A
  | .o1, .reg .b => .set1B
  | .o1, .reg .c => .set1C
  | .o1, .reg .d => .set1D
  | .o1, .reg .e => .set1E
  | .o1, .reg .h => .set1H
  | .o1, .reg .l => .set1L
  | .o1, .atHl => .set1AtHl
  | .o1, .reg .a => .set1A
  | .o2, .reg .b => .set2B
  | .o2, .reg .c => .set2C
  | .o2, .reg .d => .set2D
  | .o2, .reg .e => .set2E
  | .o2, .reg .h => .set2H
  | .o2, .reg .l => .set2L
  | .o2, .atHl => .set2AtHl
  | .o2, .reg .a => .set2A
  | .o3, .reg .b => .set3B
  | .o3, .reg .c => .set3C
  | .o3, .reg .d => .set3D
  | .o3, .reg .e => .set3E
  | .o3, .reg .h => .set3H
  | .o3, .reg .l => .set3L
  | .o3, .atHl => .set3AtHl
  | .o3, .reg .a => .set3A
  | .o4, .reg .b => .set4B
  | .o4, .reg .c => .set4C
  | .o4, .reg .d => .set4D
  | .o4, .reg .e => .set4E
  | .o4, .reg .h => .set4H
  | .o4, .reg .l => .set4L
  | .o4, .atHl => .set4AtHl
  | .o4, .reg .a => .set4A
  | .o5, .reg .b => .set5B
  | .o5, .reg .c => .set5C
  | .o5, .reg .d => .set5D
  | .o5, .reg .e => .set5E
  | .o5, .reg .h => .set5H
  | .o5, .reg .l => .set5L
  | .o5, .atHl => .set5AtHl
  | .o5, .reg .a => .set5A
  | .o6, .reg .b => .set6B
  | .o6, .reg .c => .set6C
  | .o6, .reg .d => .set6D
  | .o6, .reg .e => .set6E
  | .o6, .reg .h => .set6H
  | .o6, .reg .l => .set6L
  | .o6, .atHl => .set6AtHl
  | .o6, .reg .a => .set6A
  | .o7, .reg .b => .set7B
  | .o7, .reg .c => .set7C
  | .o7, .reg .d => .set7D
  | .o7, .reg .e => .set7E
  | .o7, .reg .h => .set7H
  | .o7, .reg .l => .set7L
  | .o7, .atHl => .set7AtHl
  | .o7, .reg .a => .set7A

/-! ## The decoder (R103 to R109) -/

/-- Quadrant x = 0 (R103). The immediate byte is `b1`, the 16-bit immediate `d16`; p and q of R102 are written
out as y = 2p + q. -/
def decodeQuadrant0 (y z : Octal) (b1 : Byte) (d16 : Word) : Instr :=
  match z, y with
  | .o0, .o0 => .nop
  | .o0, .o1 => .ldAtA16Sp d16
  | .o0, .o2 => .stop b1
  | .o0, .o3 => .jrE8 b1
  | .o0, .o4 => mkJr .nz b1
  | .o0, .o5 => mkJr .z b1
  | .o0, .o6 => mkJr .nc b1
  | .o0, .o7 => mkJr .c b1
  | .o1, .o0 => mkLd16 .bc d16
  | .o1, .o2 => mkLd16 .de d16
  | .o1, .o4 => mkLd16 .hl d16
  | .o1, .o6 => mkLd16 .sp d16
  | .o1, .o1 => mkAddHl .bc
  | .o1, .o3 => mkAddHl .de
  | .o1, .o5 => mkAddHl .hl
  | .o1, .o7 => mkAddHl .sp
  | .o2, .o0 => .ldAtBcA
  | .o2, .o2 => .ldAtDeA
  | .o2, .o4 => .ldAtHlIncA
  | .o2, .o6 => .ldAtHlDecA
  | .o2, .o1 => .ldAAtBc
  | .o2, .o3 => .ldAAtDe
  | .o2, .o5 => .ldAAtHlInc
  | .o2, .o7 => .ldAAtHlDec
  | .o3, .o0 => mkInc16 .bc
  | .o3, .o2 => mkInc16 .de
  | .o3, .o4 => mkInc16 .hl
  | .o3, .o6 => mkInc16 .sp
  | .o3, .o1 => mkDec16 .bc
  | .o3, .o3 => mkDec16 .de
  | .o3, .o5 => mkDec16 .hl
  | .o3, .o7 => mkDec16 .sp
  | .o4, y => mkInc8 (r8Table y)
  | .o5, y => mkDec8 (r8Table y)
  | .o6, y => mkLdImm (r8Table y) b1
  | .o7, .o0 => .rlca
  | .o7, .o1 => .rrca
  | .o7, .o2 => .rla
  | .o7, .o3 => .rra
  | .o7, .o4 => .daa
  | .o7, .o5 => .cpl
  | .o7, .o6 => .scf
  | .o7, .o7 => .ccf

/-- Quadrant x = 3 (R106), but for the prefix 0xCB (y = 1, z = 3), which `decodeBytes` takes first. -/
def decodeQuadrant3 (op : Byte) (y z : Octal) (b1 : Byte) (d16 : Word) : Instr :=
  match z, y with
  | .o0, .o0 => mkRet .nz
  | .o0, .o1 => mkRet .z
  | .o0, .o2 => mkRet .nc
  | .o0, .o3 => mkRet .c
  | .o0, .o4 => .ldhAtA8A b1
  | .o0, .o5 => .addSpE8 b1
  | .o0, .o6 => .ldhAAtA8 b1
  | .o0, .o7 => .ldhlSpE8 b1
  | .o1, .o0 => mkPop .bc
  | .o1, .o2 => mkPop .de
  | .o1, .o4 => mkPop .hl
  | .o1, .o6 => mkPop .af
  | .o1, .o1 => .ret
  | .o1, .o3 => .reti
  | .o1, .o5 => .jpHl
  | .o1, .o7 => .ldSpHl
  | .o2, .o0 => mkJp .nz d16
  | .o2, .o1 => mkJp .z d16
  | .o2, .o2 => mkJp .nc d16
  | .o2, .o3 => mkJp .c d16
  | .o2, .o4 => .ldAtCA
  | .o2, .o5 => .ldAtA16A d16
  | .o2, .o6 => .ldAAtC
  | .o2, .o7 => .ldAAtA16 d16
  | .o3, .o0 => .jpA16 d16
  | .o3, .o1 => .prefixCb b1
  | .o3, .o2 => .undefined op
  | .o3, .o3 => .undefined op
  | .o3, .o4 => .undefined op
  | .o3, .o5 => .undefined op
  | .o3, .o6 => .di
  | .o3, .o7 => .ei
  | .o4, .o0 => mkCall .nz d16
  | .o4, .o1 => mkCall .z d16
  | .o4, .o2 => mkCall .nc d16
  | .o4, .o3 => mkCall .c d16
  | .o4, .o4 => .undefined op
  | .o4, .o5 => .undefined op
  | .o4, .o6 => .undefined op
  | .o4, .o7 => .undefined op
  | .o5, .o0 => mkPush .bc
  | .o5, .o2 => mkPush .de
  | .o5, .o4 => mkPush .hl
  | .o5, .o6 => mkPush .af
  | .o5, .o1 => .callA16 d16
  | .o5, .o3 => .undefined op
  | .o5, .o5 => .undefined op
  | .o5, .o7 => .undefined op
  | .o6, y => mkAluImm (aluTable y) b1
  | .o7, y => mkRst y

/-- The extended page (R107): the second opcode byte after the prefix. -/
def decodeExtended (op2 : Byte) : Instr :=
  match fieldX op2 with
  | 0 => mkRot (rotTable (fieldY op2)) (r8Table (fieldZ op2))
  | 1 => mkBit (fieldY op2) (r8Table (fieldZ op2))
  | 2 => mkRes (fieldY op2) (r8Table (fieldZ op2))
  | _ => mkSet (fieldY op2) (r8Table (fieldZ op2))

/-- The instruction whose first three bytes are `op b1 b2` (R100 to R109); a byte beyond its length is not
looked at. Total over all opcodes (R111): an undefined opcode gives `undefined`, whose meaning is the fatal
decode error of R276. -/
def decodeBytes (op b1 b2 : Byte) : Instr :=
  if op = 0xCB then decodeExtended b1
  else
    match fieldX op with
    | 0 => decodeQuadrant0 (fieldY op) (fieldZ op) b1 (wordOf b2 b1)
    | 1 => mkLd (r8Table (fieldY op)) (r8Table (fieldZ op))
    | 2 => mkAlu (aluTable (fieldY op)) (r8Table (fieldZ op))
    | _ => decodeQuadrant3 op (fieldY op) (fieldZ op) b1 (wordOf b2 b1)

/-- The opcodes of three bytes (R112). -/
def opcodes3 : List Byte :=
  [0x01, 0x08, 0x11, 0x21, 0x31, 0xC2, 0xC3, 0xC4, 0xCA] ++
  [0xCC, 0xCD, 0xD2, 0xD4, 0xDA, 0xDC, 0xEA, 0xFA]

/-- The opcodes of two bytes, the prefix 0xCB among them (R112). -/
def opcodes2 : List Byte :=
  [0x06, 0x0E, 0x10, 0x16, 0x18, 0x1E, 0x20, 0x26, 0x28, 0x2E, 0x30, 0x36, 0x38, 0x3E] ++
  [0xC6, 0xCE, 0xD6, 0xDE, 0xE0, 0xE6, 0xE8, 0xEE, 0xF0, 0xF6, 0xF8, 0xFE, 0xCB]

/-- The length in bytes, a function of the first byte (R112). An undefined opcode has no length (R276); the one
byte that names it is read. -/
def opcodeLength (op : Byte) : Nat :=
  if op ∈ opcodes3 then 3 else if op ∈ opcodes2 then 2 else 1

/-- Why a list of bytes is not an instruction: it is too short. -/
inductive Reject where
  | noBytes
  | missingSecondByte
  | missingThirdByte
  deriving DecidableEq, Repr

/-- The decoder on a list of bytes: the instruction and the bytes after it (R100, R101, R111). -/
def decode (bytes : List Byte) : Except Reject (Instr × List Byte) :=
  match bytes with
  | [] => .error .noBytes
  | op :: rest =>
    match opcodeLength op with
    | 3 =>
      match rest with
      | b1 :: b2 :: rest => .ok (decodeBytes op b1 b2, rest)
      | [_] => .error .missingThirdByte
      | [] => .error .missingSecondByte
    | 2 =>
      match rest with
      | b1 :: rest => .ok (decodeBytes op b1 0, rest)
      | [] => .error .missingSecondByte
    | _ => .ok (decodeBytes op 0 0, rest)

/-! ## The encoder -/

/-- The bytes of an instruction, from the `match` column of opcode_table.json: the opcode, or 0xCB and the second
opcode byte, then the immediate, low byte first (R100, R108). -/
def encode (i : Instr) : List Byte :=
  match i with
  | .nop => [0x00]
  | .ldBcD16 d16 => [0x01, loByte d16, hiByte d16]
  | .ldAtBcA => [0x02]
  | .incBc => [0x03]
  | .incB => [0x04]
  | .decB => [0x05]
  | .ldBD8 d8 => [0x06, d8]
  | .rlca => [0x07]
  | .ldAtA16Sp a16 => [0x08, loByte a16, hiByte a16]
  | .addHlBc => [0x09]
  | .ldAAtBc => [0x0A]
  | .decBc => [0x0B]
  | .incC => [0x0C]
  | .decC => [0x0D]
  | .ldCD8 d8 => [0x0E, d8]
  | .rrca => [0x0F]
  | .stop pad => [0x10, pad]
  | .ldDeD16 d16 => [0x11, loByte d16, hiByte d16]
  | .ldAtDeA => [0x12]
  | .incDe => [0x13]
  | .incD => [0x14]
  | .decD => [0x15]
  | .ldDD8 d8 => [0x16, d8]
  | .rla => [0x17]
  | .jrE8 e8 => [0x18, e8]
  | .addHlDe => [0x19]
  | .ldAAtDe => [0x1A]
  | .decDe => [0x1B]
  | .incE => [0x1C]
  | .decE => [0x1D]
  | .ldED8 d8 => [0x1E, d8]
  | .rra => [0x1F]
  | .jrNzE8 e8 => [0x20, e8]
  | .ldHlD16 d16 => [0x21, loByte d16, hiByte d16]
  | .ldAtHlIncA => [0x22]
  | .incHl => [0x23]
  | .incH => [0x24]
  | .decH => [0x25]
  | .ldHD8 d8 => [0x26, d8]
  | .daa => [0x27]
  | .jrZE8 e8 => [0x28, e8]
  | .addHlHl => [0x29]
  | .ldAAtHlInc => [0x2A]
  | .decHl => [0x2B]
  | .incL => [0x2C]
  | .decL => [0x2D]
  | .ldLD8 d8 => [0x2E, d8]
  | .cpl => [0x2F]
  | .jrNcE8 e8 => [0x30, e8]
  | .ldSpD16 d16 => [0x31, loByte d16, hiByte d16]
  | .ldAtHlDecA => [0x32]
  | .incSp => [0x33]
  | .incAtHl => [0x34]
  | .decAtHl => [0x35]
  | .ldAtHlD8 d8 => [0x36, d8]
  | .scf => [0x37]
  | .jrCE8 e8 => [0x38, e8]
  | .addHlSp => [0x39]
  | .ldAAtHlDec => [0x3A]
  | .decSp => [0x3B]
  | .incA => [0x3C]
  | .decA => [0x3D]
  | .ldAD8 d8 => [0x3E, d8]
  | .ccf => [0x3F]
  | .ldBB => [0x40]
  | .ldBC => [0x41]
  | .ldBD => [0x42]
  | .ldBE => [0x43]
  | .ldBH => [0x44]
  | .ldBL => [0x45]
  | .ldBAtHl => [0x46]
  | .ldBA => [0x47]
  | .ldCB => [0x48]
  | .ldCC => [0x49]
  | .ldCD => [0x4A]
  | .ldCE => [0x4B]
  | .ldCH => [0x4C]
  | .ldCL => [0x4D]
  | .ldCAtHl => [0x4E]
  | .ldCA => [0x4F]
  | .ldDB => [0x50]
  | .ldDC => [0x51]
  | .ldDD => [0x52]
  | .ldDE => [0x53]
  | .ldDH => [0x54]
  | .ldDL => [0x55]
  | .ldDAtHl => [0x56]
  | .ldDA => [0x57]
  | .ldEB => [0x58]
  | .ldEC => [0x59]
  | .ldED => [0x5A]
  | .ldEE => [0x5B]
  | .ldEH => [0x5C]
  | .ldEL => [0x5D]
  | .ldEAtHl => [0x5E]
  | .ldEA => [0x5F]
  | .ldHB => [0x60]
  | .ldHC => [0x61]
  | .ldHD => [0x62]
  | .ldHE => [0x63]
  | .ldHH => [0x64]
  | .ldHL => [0x65]
  | .ldHAtHl => [0x66]
  | .ldHA => [0x67]
  | .ldLB => [0x68]
  | .ldLC => [0x69]
  | .ldLD => [0x6A]
  | .ldLE => [0x6B]
  | .ldLH => [0x6C]
  | .ldLL => [0x6D]
  | .ldLAtHl => [0x6E]
  | .ldLA => [0x6F]
  | .ldAtHlB => [0x70]
  | .ldAtHlC => [0x71]
  | .ldAtHlD => [0x72]
  | .ldAtHlE => [0x73]
  | .ldAtHlH => [0x74]
  | .ldAtHlL => [0x75]
  | .halt => [0x76]
  | .ldAtHlA => [0x77]
  | .ldAB => [0x78]
  | .ldAC => [0x79]
  | .ldAD => [0x7A]
  | .ldAE => [0x7B]
  | .ldAH => [0x7C]
  | .ldAL => [0x7D]
  | .ldAAtHl => [0x7E]
  | .ldAA => [0x7F]
  | .addAB => [0x80]
  | .addAC => [0x81]
  | .addAD => [0x82]
  | .addAE => [0x83]
  | .addAH => [0x84]
  | .addAL => [0x85]
  | .addAAtHl => [0x86]
  | .addAA => [0x87]
  | .adcAB => [0x88]
  | .adcAC => [0x89]
  | .adcAD => [0x8A]
  | .adcAE => [0x8B]
  | .adcAH => [0x8C]
  | .adcAL => [0x8D]
  | .adcAAtHl => [0x8E]
  | .adcAA => [0x8F]
  | .subB => [0x90]
  | .subC => [0x91]
  | .subD => [0x92]
  | .subE => [0x93]
  | .subH => [0x94]
  | .subL => [0x95]
  | .subAtHl => [0x96]
  | .subA => [0x97]
  | .sbcAB => [0x98]
  | .sbcAC => [0x99]
  | .sbcAD => [0x9A]
  | .sbcAE => [0x9B]
  | .sbcAH => [0x9C]
  | .sbcAL => [0x9D]
  | .sbcAAtHl => [0x9E]
  | .sbcAA => [0x9F]
  | .andB => [0xA0]
  | .andC => [0xA1]
  | .andD => [0xA2]
  | .andE => [0xA3]
  | .andH => [0xA4]
  | .andL => [0xA5]
  | .andAtHl => [0xA6]
  | .andA => [0xA7]
  | .xorB => [0xA8]
  | .xorC => [0xA9]
  | .xorD => [0xAA]
  | .xorE => [0xAB]
  | .xorH => [0xAC]
  | .xorL => [0xAD]
  | .xorAtHl => [0xAE]
  | .xorA => [0xAF]
  | .orB => [0xB0]
  | .orC => [0xB1]
  | .orD => [0xB2]
  | .orE => [0xB3]
  | .orH => [0xB4]
  | .orL => [0xB5]
  | .orAtHl => [0xB6]
  | .orA => [0xB7]
  | .cpB => [0xB8]
  | .cpC => [0xB9]
  | .cpD => [0xBA]
  | .cpE => [0xBB]
  | .cpH => [0xBC]
  | .cpL => [0xBD]
  | .cpAtHl => [0xBE]
  | .cpA => [0xBF]
  | .retNz => [0xC0]
  | .popBc => [0xC1]
  | .jpNzA16 a16 => [0xC2, loByte a16, hiByte a16]
  | .jpA16 a16 => [0xC3, loByte a16, hiByte a16]
  | .callNzA16 a16 => [0xC4, loByte a16, hiByte a16]
  | .pushBc => [0xC5]
  | .addAD8 d8 => [0xC6, d8]
  | .rst00 => [0xC7]
  | .retZ => [0xC8]
  | .ret => [0xC9]
  | .jpZA16 a16 => [0xCA, loByte a16, hiByte a16]
  | .prefixCb op2 => [0xCB, op2]
  | .callZA16 a16 => [0xCC, loByte a16, hiByte a16]
  | .callA16 a16 => [0xCD, loByte a16, hiByte a16]
  | .adcAD8 d8 => [0xCE, d8]
  | .rst08 => [0xCF]
  | .retNc => [0xD0]
  | .popDe => [0xD1]
  | .jpNcA16 a16 => [0xD2, loByte a16, hiByte a16]
  | .undefined op => [op]
  | .callNcA16 a16 => [0xD4, loByte a16, hiByte a16]
  | .pushDe => [0xD5]
  | .subD8 d8 => [0xD6, d8]
  | .rst10 => [0xD7]
  | .retC => [0xD8]
  | .reti => [0xD9]
  | .jpCA16 a16 => [0xDA, loByte a16, hiByte a16]
  | .callCA16 a16 => [0xDC, loByte a16, hiByte a16]
  | .sbcAD8 d8 => [0xDE, d8]
  | .rst18 => [0xDF]
  | .ldhAtA8A a8 => [0xE0, a8]
  | .popHl => [0xE1]
  | .ldAtCA => [0xE2]
  | .pushHl => [0xE5]
  | .andD8 d8 => [0xE6, d8]
  | .rst20 => [0xE7]
  | .addSpE8 e8 => [0xE8, e8]
  | .jpHl => [0xE9]
  | .ldAtA16A a16 => [0xEA, loByte a16, hiByte a16]
  | .xorD8 d8 => [0xEE, d8]
  | .rst28 => [0xEF]
  | .ldhAAtA8 a8 => [0xF0, a8]
  | .popAf => [0xF1]
  | .ldAAtC => [0xF2]
  | .di => [0xF3]
  | .pushAf => [0xF5]
  | .orD8 d8 => [0xF6, d8]
  | .rst30 => [0xF7]
  | .ldhlSpE8 e8 => [0xF8, e8]
  | .ldSpHl => [0xF9]
  | .ldAAtA16 a16 => [0xFA, loByte a16, hiByte a16]
  | .ei => [0xFB]
  | .cpD8 d8 => [0xFE, d8]
  | .rst38 => [0xFF]
  | .rlcB => [0xCB, 0x00]
  | .rlcC => [0xCB, 0x01]
  | .rlcD => [0xCB, 0x02]
  | .rlcE => [0xCB, 0x03]
  | .rlcH => [0xCB, 0x04]
  | .rlcL => [0xCB, 0x05]
  | .rlcAtHl => [0xCB, 0x06]
  | .rlcA => [0xCB, 0x07]
  | .rrcB => [0xCB, 0x08]
  | .rrcC => [0xCB, 0x09]
  | .rrcD => [0xCB, 0x0A]
  | .rrcE => [0xCB, 0x0B]
  | .rrcH => [0xCB, 0x0C]
  | .rrcL => [0xCB, 0x0D]
  | .rrcAtHl => [0xCB, 0x0E]
  | .rrcA => [0xCB, 0x0F]
  | .rlB => [0xCB, 0x10]
  | .rlC => [0xCB, 0x11]
  | .rlD => [0xCB, 0x12]
  | .rlE => [0xCB, 0x13]
  | .rlH => [0xCB, 0x14]
  | .rlL => [0xCB, 0x15]
  | .rlAtHl => [0xCB, 0x16]
  | .rlA => [0xCB, 0x17]
  | .rrB => [0xCB, 0x18]
  | .rrC => [0xCB, 0x19]
  | .rrD => [0xCB, 0x1A]
  | .rrE => [0xCB, 0x1B]
  | .rrH => [0xCB, 0x1C]
  | .rrL => [0xCB, 0x1D]
  | .rrAtHl => [0xCB, 0x1E]
  | .rrA => [0xCB, 0x1F]
  | .slaB => [0xCB, 0x20]
  | .slaC => [0xCB, 0x21]
  | .slaD => [0xCB, 0x22]
  | .slaE => [0xCB, 0x23]
  | .slaH => [0xCB, 0x24]
  | .slaL => [0xCB, 0x25]
  | .slaAtHl => [0xCB, 0x26]
  | .slaA => [0xCB, 0x27]
  | .sraB => [0xCB, 0x28]
  | .sraC => [0xCB, 0x29]
  | .sraD => [0xCB, 0x2A]
  | .sraE => [0xCB, 0x2B]
  | .sraH => [0xCB, 0x2C]
  | .sraL => [0xCB, 0x2D]
  | .sraAtHl => [0xCB, 0x2E]
  | .sraA => [0xCB, 0x2F]
  | .swapB => [0xCB, 0x30]
  | .swapC => [0xCB, 0x31]
  | .swapD => [0xCB, 0x32]
  | .swapE => [0xCB, 0x33]
  | .swapH => [0xCB, 0x34]
  | .swapL => [0xCB, 0x35]
  | .swapAtHl => [0xCB, 0x36]
  | .swapA => [0xCB, 0x37]
  | .srlB => [0xCB, 0x38]
  | .srlC => [0xCB, 0x39]
  | .srlD => [0xCB, 0x3A]
  | .srlE => [0xCB, 0x3B]
  | .srlH => [0xCB, 0x3C]
  | .srlL => [0xCB, 0x3D]
  | .srlAtHl => [0xCB, 0x3E]
  | .srlA => [0xCB, 0x3F]
  | .bit0B => [0xCB, 0x40]
  | .bit0C => [0xCB, 0x41]
  | .bit0D => [0xCB, 0x42]
  | .bit0E => [0xCB, 0x43]
  | .bit0H => [0xCB, 0x44]
  | .bit0L => [0xCB, 0x45]
  | .bit0AtHl => [0xCB, 0x46]
  | .bit0A => [0xCB, 0x47]
  | .bit1B => [0xCB, 0x48]
  | .bit1C => [0xCB, 0x49]
  | .bit1D => [0xCB, 0x4A]
  | .bit1E => [0xCB, 0x4B]
  | .bit1H => [0xCB, 0x4C]
  | .bit1L => [0xCB, 0x4D]
  | .bit1AtHl => [0xCB, 0x4E]
  | .bit1A => [0xCB, 0x4F]
  | .bit2B => [0xCB, 0x50]
  | .bit2C => [0xCB, 0x51]
  | .bit2D => [0xCB, 0x52]
  | .bit2E => [0xCB, 0x53]
  | .bit2H => [0xCB, 0x54]
  | .bit2L => [0xCB, 0x55]
  | .bit2AtHl => [0xCB, 0x56]
  | .bit2A => [0xCB, 0x57]
  | .bit3B => [0xCB, 0x58]
  | .bit3C => [0xCB, 0x59]
  | .bit3D => [0xCB, 0x5A]
  | .bit3E => [0xCB, 0x5B]
  | .bit3H => [0xCB, 0x5C]
  | .bit3L => [0xCB, 0x5D]
  | .bit3AtHl => [0xCB, 0x5E]
  | .bit3A => [0xCB, 0x5F]
  | .bit4B => [0xCB, 0x60]
  | .bit4C => [0xCB, 0x61]
  | .bit4D => [0xCB, 0x62]
  | .bit4E => [0xCB, 0x63]
  | .bit4H => [0xCB, 0x64]
  | .bit4L => [0xCB, 0x65]
  | .bit4AtHl => [0xCB, 0x66]
  | .bit4A => [0xCB, 0x67]
  | .bit5B => [0xCB, 0x68]
  | .bit5C => [0xCB, 0x69]
  | .bit5D => [0xCB, 0x6A]
  | .bit5E => [0xCB, 0x6B]
  | .bit5H => [0xCB, 0x6C]
  | .bit5L => [0xCB, 0x6D]
  | .bit5AtHl => [0xCB, 0x6E]
  | .bit5A => [0xCB, 0x6F]
  | .bit6B => [0xCB, 0x70]
  | .bit6C => [0xCB, 0x71]
  | .bit6D => [0xCB, 0x72]
  | .bit6E => [0xCB, 0x73]
  | .bit6H => [0xCB, 0x74]
  | .bit6L => [0xCB, 0x75]
  | .bit6AtHl => [0xCB, 0x76]
  | .bit6A => [0xCB, 0x77]
  | .bit7B => [0xCB, 0x78]
  | .bit7C => [0xCB, 0x79]
  | .bit7D => [0xCB, 0x7A]
  | .bit7E => [0xCB, 0x7B]
  | .bit7H => [0xCB, 0x7C]
  | .bit7L => [0xCB, 0x7D]
  | .bit7AtHl => [0xCB, 0x7E]
  | .bit7A => [0xCB, 0x7F]
  | .res0B => [0xCB, 0x80]
  | .res0C => [0xCB, 0x81]
  | .res0D => [0xCB, 0x82]
  | .res0E => [0xCB, 0x83]
  | .res0H => [0xCB, 0x84]
  | .res0L => [0xCB, 0x85]
  | .res0AtHl => [0xCB, 0x86]
  | .res0A => [0xCB, 0x87]
  | .res1B => [0xCB, 0x88]
  | .res1C => [0xCB, 0x89]
  | .res1D => [0xCB, 0x8A]
  | .res1E => [0xCB, 0x8B]
  | .res1H => [0xCB, 0x8C]
  | .res1L => [0xCB, 0x8D]
  | .res1AtHl => [0xCB, 0x8E]
  | .res1A => [0xCB, 0x8F]
  | .res2B => [0xCB, 0x90]
  | .res2C => [0xCB, 0x91]
  | .res2D => [0xCB, 0x92]
  | .res2E => [0xCB, 0x93]
  | .res2H => [0xCB, 0x94]
  | .res2L => [0xCB, 0x95]
  | .res2AtHl => [0xCB, 0x96]
  | .res2A => [0xCB, 0x97]
  | .res3B => [0xCB, 0x98]
  | .res3C => [0xCB, 0x99]
  | .res3D => [0xCB, 0x9A]
  | .res3E => [0xCB, 0x9B]
  | .res3H => [0xCB, 0x9C]
  | .res3L => [0xCB, 0x9D]
  | .res3AtHl => [0xCB, 0x9E]
  | .res3A => [0xCB, 0x9F]
  | .res4B => [0xCB, 0xA0]
  | .res4C => [0xCB, 0xA1]
  | .res4D => [0xCB, 0xA2]
  | .res4E => [0xCB, 0xA3]
  | .res4H => [0xCB, 0xA4]
  | .res4L => [0xCB, 0xA5]
  | .res4AtHl => [0xCB, 0xA6]
  | .res4A => [0xCB, 0xA7]
  | .res5B => [0xCB, 0xA8]
  | .res5C => [0xCB, 0xA9]
  | .res5D => [0xCB, 0xAA]
  | .res5E => [0xCB, 0xAB]
  | .res5H => [0xCB, 0xAC]
  | .res5L => [0xCB, 0xAD]
  | .res5AtHl => [0xCB, 0xAE]
  | .res5A => [0xCB, 0xAF]
  | .res6B => [0xCB, 0xB0]
  | .res6C => [0xCB, 0xB1]
  | .res6D => [0xCB, 0xB2]
  | .res6E => [0xCB, 0xB3]
  | .res6H => [0xCB, 0xB4]
  | .res6L => [0xCB, 0xB5]
  | .res6AtHl => [0xCB, 0xB6]
  | .res6A => [0xCB, 0xB7]
  | .res7B => [0xCB, 0xB8]
  | .res7C => [0xCB, 0xB9]
  | .res7D => [0xCB, 0xBA]
  | .res7E => [0xCB, 0xBB]
  | .res7H => [0xCB, 0xBC]
  | .res7L => [0xCB, 0xBD]
  | .res7AtHl => [0xCB, 0xBE]
  | .res7A => [0xCB, 0xBF]
  | .set0B => [0xCB, 0xC0]
  | .set0C => [0xCB, 0xC1]
  | .set0D => [0xCB, 0xC2]
  | .set0E => [0xCB, 0xC3]
  | .set0H => [0xCB, 0xC4]
  | .set0L => [0xCB, 0xC5]
  | .set0AtHl => [0xCB, 0xC6]
  | .set0A => [0xCB, 0xC7]
  | .set1B => [0xCB, 0xC8]
  | .set1C => [0xCB, 0xC9]
  | .set1D => [0xCB, 0xCA]
  | .set1E => [0xCB, 0xCB]
  | .set1H => [0xCB, 0xCC]
  | .set1L => [0xCB, 0xCD]
  | .set1AtHl => [0xCB, 0xCE]
  | .set1A => [0xCB, 0xCF]
  | .set2B => [0xCB, 0xD0]
  | .set2C => [0xCB, 0xD1]
  | .set2D => [0xCB, 0xD2]
  | .set2E => [0xCB, 0xD3]
  | .set2H => [0xCB, 0xD4]
  | .set2L => [0xCB, 0xD5]
  | .set2AtHl => [0xCB, 0xD6]
  | .set2A => [0xCB, 0xD7]
  | .set3B => [0xCB, 0xD8]
  | .set3C => [0xCB, 0xD9]
  | .set3D => [0xCB, 0xDA]
  | .set3E => [0xCB, 0xDB]
  | .set3H => [0xCB, 0xDC]
  | .set3L => [0xCB, 0xDD]
  | .set3AtHl => [0xCB, 0xDE]
  | .set3A => [0xCB, 0xDF]
  | .set4B => [0xCB, 0xE0]
  | .set4C => [0xCB, 0xE1]
  | .set4D => [0xCB, 0xE2]
  | .set4E => [0xCB, 0xE3]
  | .set4H => [0xCB, 0xE4]
  | .set4L => [0xCB, 0xE5]
  | .set4AtHl => [0xCB, 0xE6]
  | .set4A => [0xCB, 0xE7]
  | .set5B => [0xCB, 0xE8]
  | .set5C => [0xCB, 0xE9]
  | .set5D => [0xCB, 0xEA]
  | .set5E => [0xCB, 0xEB]
  | .set5H => [0xCB, 0xEC]
  | .set5L => [0xCB, 0xED]
  | .set5AtHl => [0xCB, 0xEE]
  | .set5A => [0xCB, 0xEF]
  | .set6B => [0xCB, 0xF0]
  | .set6C => [0xCB, 0xF1]
  | .set6D => [0xCB, 0xF2]
  | .set6E => [0xCB, 0xF3]
  | .set6H => [0xCB, 0xF4]
  | .set6L => [0xCB, 0xF5]
  | .set6AtHl => [0xCB, 0xF6]
  | .set6A => [0xCB, 0xF7]
  | .set7B => [0xCB, 0xF8]
  | .set7C => [0xCB, 0xF9]
  | .set7D => [0xCB, 0xFA]
  | .set7E => [0xCB, 0xFB]
  | .set7H => [0xCB, 0xFC]
  | .set7L => [0xCB, 0xFD]
  | .set7AtHl => [0xCB, 0xFE]
  | .set7A => [0xCB, 0xFF]

/-- The length of an instruction in bytes (R100). -/
def byteLength (i : Instr) : Nat := (encode i).length

/-! ## Cycle costs (R116, R117): the default of the parameter CYCLES -/

/-- The main page's base costs, eight opcodes a row, from opcode_table.json (0 where it gives none). -/
def mainCosts00 : List Nat :=
  [4, 12, 8, 8, 4, 4, 8, 4] ++
  [20, 8, 8, 8, 4, 4, 8, 4] ++
  [4, 12, 8, 8, 4, 4, 8, 4] ++
  [12, 8, 8, 8, 4, 4, 8, 4] ++
  [8, 12, 8, 8, 4, 4, 8, 4] ++
  [8, 8, 8, 8, 4, 4, 8, 4] ++
  [8, 12, 8, 8, 12, 12, 12, 4] ++
  [8, 8, 8, 8, 4, 4, 8, 4]

/-- The same for 0x40 to 0x7F. -/
def mainCosts40 : List Nat :=
  [4, 4, 4, 4, 4, 4, 8, 4] ++
  [4, 4, 4, 4, 4, 4, 8, 4] ++
  [4, 4, 4, 4, 4, 4, 8, 4] ++
  [4, 4, 4, 4, 4, 4, 8, 4] ++
  [4, 4, 4, 4, 4, 4, 8, 4] ++
  [4, 4, 4, 4, 4, 4, 8, 4] ++
  [8, 8, 8, 8, 8, 8, 4, 8] ++
  [4, 4, 4, 4, 4, 4, 8, 4]

/-- The same for 0x80 to 0xBF. -/
def mainCosts80 : List Nat :=
  [4, 4, 4, 4, 4, 4, 8, 4] ++
  [4, 4, 4, 4, 4, 4, 8, 4] ++
  [4, 4, 4, 4, 4, 4, 8, 4] ++
  [4, 4, 4, 4, 4, 4, 8, 4] ++
  [4, 4, 4, 4, 4, 4, 8, 4] ++
  [4, 4, 4, 4, 4, 4, 8, 4] ++
  [4, 4, 4, 4, 4, 4, 8, 4] ++
  [4, 4, 4, 4, 4, 4, 8, 4]

/-- The same for 0xC0 to 0xFF. -/
def mainCostsC0 : List Nat :=
  [8, 12, 12, 16, 12, 16, 8, 16] ++
  [8, 16, 12, 0, 12, 24, 8, 16] ++
  [8, 12, 12, 0, 12, 16, 8, 16] ++
  [8, 16, 12, 0, 12, 0, 8, 16] ++
  [12, 12, 8, 0, 0, 16, 8, 16] ++
  [16, 4, 16, 0, 0, 0, 8, 16] ++
  [12, 12, 8, 4, 0, 16, 8, 16] ++
  [12, 8, 16, 4, 0, 0, 8, 16]

/-- The base cost of a row of opcode_table.json: the main page as the table has it; on the extended page 8 for a
register operand and 16 for `(HL)`, z = 6 (R116, C12). -/
def defaultBase (row : Nat) : Nat :=
  if row < 64 then mainCosts00.getD row 0
  else if row < 128 then mainCosts40.getD (row - 64) 0
  else if row < 192 then mainCosts80.getD (row - 128) 0
  else if row < 256 then mainCostsC0.getD (row - 192) 0
  else if row % 8 = 6 then 16
  else 8

/-- The row of opcode_table.json an instruction stands in: the opcode, or 256 + op2 (R121). -/
def rowOf (i : Instr) : Nat :=
  match encode i with
  | op :: op2 :: _ => if op = 0xCB then 256 + op2.toNat else op.toNat
  | [op] => op.toNat
  | [] => 0

/-- The condition an instruction is under, and its taken-branch penalty (R117); none for an unconditional one. -/
def conditionOf (i : Instr) : Option (Cond × Nat) :=
  match i with
  | .jrNzE8 _ => some (.nz, 4)
  | .jrZE8 _ => some (.z, 4)
  | .jrNcE8 _ => some (.nc, 4)
  | .jrCE8 _ => some (.c, 4)
  | .jpNzA16 _ => some (.nz, 4)
  | .jpZA16 _ => some (.z, 4)
  | .jpNcA16 _ => some (.nc, 4)
  | .jpCA16 _ => some (.c, 4)
  | .callNzA16 _ => some (.nz, 12)
  | .callZA16 _ => some (.z, 12)
  | .callNcA16 _ => some (.nc, 12)
  | .callCA16 _ => some (.c, 12)
  | .retNz => some (.nz, 12)
  | .retZ => some (.z, 12)
  | .retNc => some (.nc, 12)
  | .retC => some (.c, 12)
  | _ => none

/-- The base cost and the taken-branch penalty of an instruction under the parameter CYCLES (R7, R116, R117). -/
def costOf (p : Params) (i : Instr) : Nat × Nat :=
  match p.cycles.find? (fun r => r.row == rowOf i) with
  | some r => (r.base, r.penalty)
  | none => (defaultBase (rowOf i), ((conditionOf i).map (·.2)).getD 0)

/-! ## The host's reading of a table word -/

/-- The first three bytes of the instruction whose bits are `w`, `nbits` of them, all later bits 0. opcode_table.json
numbers a row of the extended page as `0xCB ++ op2`, the first byte high (R121); any other word counts on from its
first byte (log entry 11). -/
def tableBytes (nbits w : Nat) : Byte × Byte × Byte :=
  let v := w % 2 ^ nbits
  if nbits = 16 ∧ v / 256 = 0xCB then (0xCB, BitVec.ofNat 8 v, 0)
  else (BitVec.ofNat 8 v, BitVec.ofNat 8 (v / 256), BitVec.ofNat 8 (v / 65536))

/-- The instruction the decoder reads from a word numbered as opcode_table.json numbers its rows. -/
def decodeTableWord (nbits w : Nat) : Option Instr :=
  match tableBytes nbits w with
  | (b0, b1, b2) =>
    match decode [b0, b1, b2] with
    | .ok (i, _) => some i
    | .error _ => none

end Sys2Proof
end

