-- ==== Sys2Proof/Machine/Operands.lean ====
section
/-! DEFINITION. The register operands: the tables r8, r16 and r16stk of 00_scope.md R10 as reads and writes of the
register file, the pair views of 10_state.md R21, and the advance of PC (R28). -/

namespace Sys2Proof.Machine

/-- Read a register of the table r8 (R10, R22). -/
def State.getR8 (s : State) (r : Reg8) : Byte :=
  match r with
  | .a => s.regs.a
  | .b => s.regs.b
  | .c => s.regs.c
  | .d => s.regs.d
  | .e => s.regs.e
  | .h => s.regs.h
  | .l => s.regs.l

/-- Write a register of the table r8 (R10, R22). -/
def State.setR8 (s : State) (r : Reg8) (v : Byte) : State :=
  match r with
  | .a => { s with regs := { s.regs with a := v } }
  | .b => { s with regs := { s.regs with b := v } }
  | .c => { s with regs := { s.regs with c := v } }
  | .d => { s with regs := { s.regs with d := v } }
  | .e => { s with regs := { s.regs with e := v } }
  | .h => { s with regs := { s.regs with h := v } }
  | .l => { s with regs := { s.regs with l := v } }

/-- BC = B ++ C (R21). -/
def State.bc (s : State) : Word := wordOf s.regs.b s.regs.c

/-- DE = D ++ E (R21). -/
def State.de (s : State) : Word := wordOf s.regs.d s.regs.e

/-- HL = H ++ L (R21). -/
def State.hl (s : State) : Word := wordOf s.regs.h s.regs.l

/-- AF = A ++ F (R21). -/
def State.af (s : State) : Word := wordOf s.regs.a s.regs.f

def State.setBc (s : State) (w : Word) : State := { s with regs := { s.regs with b := hiByte w, c := loByte w } }

def State.setDe (s : State) (w : Word) : State := { s with regs := { s.regs with d := hiByte w, e := loByte w } }

def State.setHl (s : State) (w : Word) : State := { s with regs := { s.regs with h := hiByte w, l := loByte w } }

def State.setSp (s : State) (w : Word) : State := { s with regs := { s.regs with sp := w } }

def State.setPc (s : State) (w : Word) : State := { s with regs := { s.regs with pc := w } }

/-- AF as POP AF writes it: F takes bits 7:4, its bits 3:0 are forced to 0 (R24, R167). -/
def State.setAf (s : State) (w : Word) : State :=
  { s with regs := { s.regs with a := hiByte w, f := loByte w &&& 0xF0 } }

/-- Read through the table r16 (R10). -/
def State.getR16 (s : State) (r : Reg16) : Word :=
  match r with
  | .bc => s.bc
  | .de => s.de
  | .hl => s.hl
  | .sp => s.regs.sp

/-- Write through the table r16 (R10). -/
def State.setR16 (s : State) (r : Reg16) (w : Word) : State :=
  match r with
  | .bc => s.setBc w
  | .de => s.setDe w
  | .hl => s.setHl w
  | .sp => s.setSp w

/-- Read through the table r16stk (R10). -/
def State.getStk (s : State) (r : Stk16) : Word :=
  match r with
  | .bc => s.bc
  | .de => s.de
  | .hl => s.hl
  | .af => s.af

/-- Write through the table r16stk (R10). -/
def State.setStk (s : State) (r : Stk16) (w : Word) : State :=
  match r with
  | .bc => s.setBc w
  | .de => s.setDe w
  | .hl => s.setHl w
  | .af => s.setAf w

/-- `next = pc0 +_16 len` (00_scope.md R12). -/
def State.nextPc (s : State) (len : Nat) : Word := s.regs.pc + BitVec.ofNat 16 len

/-- The PC advance of an instruction of `len` bytes (R28). -/
def State.advance (s : State) (len : Nat) : State := s.setPc (s.nextPc len)

end Sys2Proof.Machine
end

