-- ==== Sys2Proof/Machine/Bus.lean ====
section
/-! DEFINITION. The address decoder (20_memory.md): what an address names, the raw reads and writes with their side
effects, the two gates, and the gated accesses every instruction uses. -/

namespace Sys2Proof.Machine

/-- The memory-mapped registers the core interprets (10_state.md R35). -/
inductive IoReg where
  | p1 | div | tima | tma | tac | ifReg | lcdc | stat | dma | boot | ie
  deriving DecidableEq, Repr

/-- Which of them an address is (R35). -/
def ioRegAt (n : Nat) : Option IoReg :=
  if n = 0xFF00 then some .p1
  else if n = 0xFF04 then some .div
  else if n = 0xFF05 then some .tima
  else if n = 0xFF06 then some .tma
  else if n = 0xFF07 then some .tac
  else if n = 0xFF0F then some .ifReg
  else if n = 0xFF40 then some .lcdc
  else if n = 0xFF41 then some .stat
  else if n = 0xFF46 then some .dma
  else if n = 0xFF50 then some .boot
  else if n = 0xFFFF then some .ie
  else none

/-- What an address names (R55). -/
inductive Target where
  /-- A byte of plain storage, by its key. -/
  | cell (key : Nat)
  /-- A byte of BOOT_ROM or CART_ROM, by its key. -/
  | rom (key : Nat)
  /-- A register of the I/O block, or IE. -/
  | reg (r : IoReg)
  /-- External RAM while it is disabled (R62). -/
  | extramOff
  /-- 0xFEA0 to 0xFEFF (R68). -/
  | unusable
  deriving DecidableEq, Repr

/-- The ROM bank of the switchable window: 7 bits, the remap of a zero low part applied when it is used (R58, C4). -/
def romBank (m : Mbc) : Nat := m.bankHi.toNat * 32 + (if m.bankLo = 0 then 1 else m.bankLo.toNat)

/-- The external RAM bank (R61, D11). -/
def ramBank (m : Mbc) : Nat := if m.mode then m.bankHi.toNat else 0

/-- The address map, first matching row (R55 to R58, R61, R66). -/
def target (s : State) (a : Word) : Target :=
  let n := a.toNat
  if n < 0x100 ∧ s.hasBooted = false then .rom (bootRomBase + n)
  else if n < 0x4000 then .rom (cartRomBase + n)
  else if n < 0x8000 then .rom (cartRomBase + romBank s.mbc * 0x4000 + n % 0x4000)
  else if n < 0xA000 then .cell n
  else if n < 0xC000 then
    if s.mbc.ramEnable then .cell (extramBase + ramBank s.mbc * 0x2000 + n % 0x2000) else .extramOff
  else if n < 0xE000 then .cell n
  else if n < 0xFE00 then .cell (n - 0x2000)
  else if n < 0xFEA0 then .cell n
  else if n < 0xFF00 then .unusable
  else
    match ioRegAt n with
    | some r => .reg r
    | none => .cell n

/-! ## Reads -/

/-- Start ++ Select ++ B ++ A, 1 for pressed (R77). -/
def Joypad.action (j : Joypad) : BitVec 4 :=
  BitVec.ofBool j.start ++ BitVec.ofBool j.select ++ BitVec.ofBool j.b ++ BitVec.ofBool j.a

/-- Down ++ Up ++ Left ++ Right, 1 for pressed (R77). -/
def Joypad.direction (j : Joypad) : BitVec 4 :=
  BitVec.ofBool j.down ++ BitVec.ofBool j.up ++ BitVec.ofBool j.left ++ BitVec.ofBool j.right

/-- The byte a read of P1 composes from the selector bits and the buttons (R77, D32). -/
def composeP1 (sel : BitVec 2) (j : Joypad) : Byte :=
  let act : BitVec 4 := if sel.getLsbD 1 then 0 else j.action
  let dir : BitVec 4 := if sel.getLsbD 0 then 0 else j.direction
  (0b11 : BitVec 2) ++ sel ++ ~~~(act ||| dir)

/-- Read a register of the I/O block: P1 is composed, the others return what is stored (R77, R81, R82, R84; D18). -/
def readIoReg (s : State) (r : IoReg) : Byte :=
  match r with
  | .p1 => composeP1 s.io.p1Select s.joypad
  | .div => s.io.div
  | .tima => s.io.tima
  | .tma => s.io.tma
  | .tac => s.io.tac
  | .ifReg => s.io.ifReg
  | .lcdc => s.io.lcdc
  | .stat => s.io.stat
  | .dma => s.io.dma
  | .boot => s.io.boot
  | .ie => s.io.ie

/-- The byte EXTRAM_OFF_VALUE (R62). -/
def offByte (v : OffValue) : Byte :=
  match v with
  | .zeros => 0x00
  | .ones => 0xFF

/-- `RawRead(addr)` (R53). -/
def rawRead (s : State) (a : Word) : Byte :=
  match target s a with
  | .cell k => s.mem.read k
  | .rom k => s.mem.read k
  | .reg r => readIoReg s r
  | .extramOff => offByte s.params.extramOff
  | .unusable => s.params.unusableRead

/-! ## Writes -/

/-- Store a byte at a key. -/
def State.storeCell (s : State) (k : Nat) (v : Byte) : State := { s with mem := s.mem.write k v }

/-- The key of byte `i` of OAM (R67). -/
def oamKey (i : Nat) : Nat := 0xFE00 + i

/-- Storage after the OAM-DMA copy of `n` bytes from page `v`, ascending, each byte read raw and written directly
(R74, R75). -/
def copyToOam (v : Byte) (n : Nat) (s : State) : Memory :=
  match n with
  | 0 => s.mem
  | i + 1 =>
    let m := copyToOam v i s
    m.write (oamKey i) (rawRead { s with mem := m } (wordOf v 0 + BitVec.ofNat 16 i))

/-- Start an OAM DMA: store the page, copy 160 bytes, open the window of 162×4 cycles (R74). -/
def startDma (v : Byte) (s : State) : State :=
  let s := { s with io := { s.io with dma := v } }
  { s with mem := copyToOam v 160 s, dmaRemaining := 648 }

/-- A write to a register of the I/O block, with its side effect: P1 keeps the selector bits (R78), DIV clears itself
and its accumulator (R85), STAT keeps its bits 2:0 (R79), DMA starts a transfer (R74), BOOT latches (R80); the others
store (R81, R82, R84). -/
def writeIoReg (s : State) (r : IoReg) (v : Byte) : State :=
  match r with
  | .p1 => { s with io := { s.io with p1Select := v.extractLsb' 4 2 } }
  | .div => { s with io := { s.io with div := 0 }, divAcc := 0 }
  | .tima => { s with io := { s.io with tima := v } }
  | .tma => { s with io := { s.io with tma := v } }
  | .tac => { s with io := { s.io with tac := v } }
  | .ifReg => { s with io := { s.io with ifReg := v } }
  | .lcdc => { s with io := { s.io with lcdc := v } }
  | .stat => { s with io := { s.io with stat := (v &&& 0xF8) ||| (s.io.stat &&& 0x07) } }
  | .dma => startDma v s
  | .boot => { s with io := { s.io with boot := v }, hasBooted := true }
  | .ie => { s with io := { s.io with ie := v } }

/-- A write below 0x8000: a bank-controller command, nothing is stored (R59, R60; D10). -/
def mbcCommand (m : Mbc) (a : Word) (v : Byte) : Mbc :=
  if a.toNat < 0x2000 then { m with ramEnable := v.extractLsb' 0 4 == 0xA }
  else if a.toNat < 0x4000 then { m with bankLo := v.extractLsb' 0 5 }
  else if a.toNat < 0x6000 then { m with bankHi := v.extractLsb' 0 2 }
  else { m with mode := v.getLsbD 0 }

/-- `RawWrite(addr, v)` (R54, R55): commands below 0x8000, storage, registers; disabled external RAM and the unassigned
range drop the write (R63, R68). -/
def rawWrite (s : State) (a : Word) (v : Byte) : State :=
  if a.toNat < 0x8000 then { s with mbc := mbcCommand s.mbc a v }
  else
    match target s a with
    | .cell k => s.storeCell k v
    | .reg r => writeIoReg s r v
    | .rom _ => s
    | .extramOff => s
    | .unusable => s

/-! ## The gates and the gated accesses -/

/-- LCDC bit 7 (R71). -/
def lcdOn (s : State) : Bool := s.io.lcdc.getLsbD 7

/-- STAT bits 1:0 (R71): 2 is OAM search, 3 is pixel transfer. -/
def lcdMode (s : State) : Nat := s.io.stat.toNat % 4

/-- 0xFF80 to 0xFFFE, the region exempt from the lockout (R72, R83). -/
def inHighRam (a : Word) : Bool := decide (0xFF80 ≤ a.toNat ∧ a.toNat ≤ 0xFFFE)

/-- The DMA lockout (R72). -/
def dmaDenied (s : State) (a : Word) : Bool := decide (s.dmaRemaining > 0) && !inHighRam a

/-- The LCD-mode gate (R70). -/
def lcdDenied (s : State) (a : Word) : Bool :=
  lcdOn s &&
    ((decide (0x8000 ≤ a.toNat ∧ a.toNat ≤ 0x9FFF) && lcdMode s == 3) ||
      (decide (0xFE00 ≤ a.toNat ∧ a.toNat ≤ 0xFE9F) && (lcdMode s == 2 || lcdMode s == 3)))

/-- Whether a gated access is denied: the lockout first, then the LCD gate (R51, R73). -/
def denied (s : State) (a : Word) : Bool := dmaDenied s a || lcdDenied s a

/-- `MemRead(addr, 1)`, the gated read (R51). -/
def memRead (s : State) (a : Word) : Byte := if denied s a then 0xFF else rawRead s a

/-- `MemWrite(addr, 1, v)`, the gated write (R52). -/
def memWrite (s : State) (a : Word) (v : Byte) : State := if denied s a then s else rawWrite s a v

/-- `MemRead(addr, 2)`: low byte at the lower address (00_scope.md R11, D1). -/
def memRead16 (s : State) (a : Word) : Word := wordOf (memRead s (a + 1)) (memRead s a)

/-- `MemWrite(addr, 2, v)`: the low byte, then the high byte at the next address (R11, D1). -/
def memWrite16 (s : State) (a : Word) (v : Word) : State := memWrite (memWrite s a (loByte v)) (a + 1) (hiByte v)

/-- Read an r8 operand: a register, or the byte at HL (R10). -/
def State.getOpd8 (s : State) (x : Opd8) : Byte :=
  match x with
  | .reg r => s.getR8 r
  | .atHl => memRead s s.hl

/-- Write an r8 operand (R10). -/
def State.setOpd8 (s : State) (x : Opd8) (v : Byte) : State :=
  match x with
  | .reg r => s.setR8 r v
  | .atHl => memWrite s s.hl v

end Sys2Proof.Machine
end

