-- ==== Sys2Proof/Machine/Flags.lean ====
section
/-! DEFINITION. The flag register F (10_state.md R23, R24) and every flag computation of the instruction rules: the
8-bit adder and subtracter (42_alu8.md R195), the logical operations, increment and decrement, DAA, the 16-bit
additions (43_alu16.md), rotates and shifts (44_rotate_shift_bit.md). -/

namespace Sys2Proof.Machine

/-- The four flags of R23. -/
structure Flags where
  z : Bool
  n : Bool
  h : Bool
  c : Bool
  deriving DecidableEq, Repr

/-- `Z ++ N ++ H ++ C ++ 0b0000` (R23, R24). -/
def Flags.toByte (fl : Flags) : Byte :=
  BitVec.ofBool fl.z ++ BitVec.ofBool fl.n ++ BitVec.ofBool fl.h ++ BitVec.ofBool fl.c ++ (0 : BitVec 4)

/-- Bits 7, 6, 5, 4 of F. -/
def Flags.ofByte (f : Byte) : Flags :=
  { z := f.getLsbD 7, n := f.getLsbD 6, h := f.getLsbD 5, c := f.getLsbD 4 }

/-- The flags F holds. -/
def State.flags (s : State) : Flags := Flags.ofByte s.regs.f

/-- Write F from the four flags; bits 3:0 become 0 (R24). -/
def State.setFlags (s : State) (fl : Flags) : State := { s with regs := { s.regs with f := fl.toByte } }

/-- The condition table `cc` of R10 on the flags as they stand. -/
def State.cond (s : State) (cc : Cond) : Bool :=
  match cc with
  | .nz => !s.flags.z
  | .z => s.flags.z
  | .nc => !s.flags.c
  | .c => s.flags.c

/-! ## 8-bit arithmetic and logic -/

/-- `Add8(a, b, cin)` of R195. -/
def add8 (a b : Byte) (cin : Bool) : Byte × Flags :=
  let sum := a.toNat + b.toNat + cin.toNat
  let res := BitVec.ofNat 8 sum
  (res, { z := res == 0, n := false, h := decide (a.toNat % 16 + b.toNat % 16 + cin.toNat ≥ 0x10),
          c := decide (sum ≥ 0x100) })

/-- `Sub8(a, b, cin)` of R195. -/
def sub8 (a b : Byte) (cin : Bool) : Byte × Flags :=
  let res := a - b - BitVec.ofNat 8 cin.toNat
  (res, { z := res == 0, n := true, h := decide (a.toNat % 16 < b.toNat % 16 + cin.toNat),
          c := decide (a.toNat < b.toNat + cin.toNat) })

/-- The result and flags of a logical operation whose H is `h` (R184 to R186; D7). -/
def logic8 (res : Byte) (h : Bool) : Byte × Flags :=
  (res, { z := res == 0, n := false, h := h, c := false })

/-- The eight accumulator operations `alu[y]` (R180 to R187): the byte A takes and the flags; CP leaves A. -/
def aluResult (op : AluOp) (a v : Byte) (carry : Bool) : Byte × Flags :=
  match op with
  | .add => add8 a v false
  | .adc => add8 a v carry
  | .sub => sub8 a v false
  | .sbc => sub8 a v carry
  | .and => logic8 (a &&& v) true
  | .xor => logic8 (a ^^^ v) false
  | .or => logic8 (a ||| v) false
  | .cp => (a, (sub8 a v false).2)

/-- INC: the result and the flags; C is unchanged (R188). -/
def incResult (a : Byte) (old : Flags) : Byte × Flags :=
  let res := a + 1
  (res, { z := res == 0, n := false, h := decide (a.toNat % 16 = 0xF), c := old.c })

/-- DEC: the result and the flags; C is unchanged (R189). -/
def decResult (a : Byte) (old : Flags) : Byte × Flags :=
  let res := a - 1
  (res, { z := res == 0, n := true, h := decide (a.toNat % 16 = 0x0), c := old.c })

/-- The byte DAA adds or subtracts: the low-digit and the high-digit correction (R190). -/
def daaAdjust (low high : Bool) : Byte :=
  (if low then 0x06 else 0x00) ||| (if high then 0x60 else 0x00)

/-- DAA (R190): both tests of the addition branch look at A before any adjustment; N is unchanged. -/
def daaResult (a : Byte) (old : Flags) : Byte × Flags :=
  if old.n then
    let res := a - daaAdjust old.h old.c
    (res, { z := res == 0, n := old.n, h := false, c := old.c })
  else
    let high := old.c || decide (a.toNat > 0x99)
    let res := a + daaAdjust (old.h || decide (a.toNat % 16 > 9)) high
    (res, { z := res == 0, n := old.n, h := false, c := high })

/-! ## 16-bit arithmetic -/

/-- ADD HL,rr: H out of bit 11, C out of bit 15, N = 0, Z unchanged (R210, C6). -/
def addHlResult (a b : Word) (old : Flags) : Word × Flags :=
  let sum := a.toNat + b.toNat
  (BitVec.ofNat 16 sum,
    { z := old.z, n := false, h := decide (a.toNat % 0x1000 + b.toNat % 0x1000 ≥ 0x1000),
      c := decide (sum ≥ 0x10000) })

/-- SP plus a signed displacement: the 16-bit sum is signed, H and C are those of the unsigned addition of the low
bytes, Z = N = 0 (R165, R211, C6). -/
def spDispResult (sp : Word) (e8 : Byte) : Word × Flags :=
  (sp + sext16 e8,
    { z := false, n := false, h := decide (sp.toNat % 16 + e8.toNat % 16 ≥ 0x10),
      c := decide (sp.toNat % 256 + e8.toNat ≥ 0x100) })

/-! ## Rotates and shifts -/

/-- The result of a rotate or shift and the bit shifted out (R224 to R231; the same rotations in R220 to R223). -/
def rotResult (op : RotOp) (a : Byte) (carry : Bool) : Byte × Bool :=
  match op with
  | .rlc => (a.extractLsb' 0 7 ++ BitVec.ofBool (a.getLsbD 7), a.getLsbD 7)
  | .rrc => (BitVec.ofBool (a.getLsbD 0) ++ a.extractLsb' 1 7, a.getLsbD 0)
  | .rl => (a.extractLsb' 0 7 ++ BitVec.ofBool carry, a.getLsbD 7)
  | .rr => (BitVec.ofBool carry ++ a.extractLsb' 1 7, a.getLsbD 0)
  | .sla => (a.extractLsb' 0 7 ++ (0 : BitVec 1), a.getLsbD 7)
  | .sra => (BitVec.ofBool (a.getLsbD 7) ++ a.extractLsb' 1 7, a.getLsbD 0)
  | .swap => (a.extractLsb' 0 4 ++ a.extractLsb' 4 4, false)
  | .srl => ((0 : BitVec 1) ++ a.extractLsb' 1 7, a.getLsbD 0)

/-- The flags of the extended page's rotates and shifts: Z from the result, N = H = 0, C the bit shifted out (R236). -/
def rotFlags (res : Byte) (out : Bool) : Flags := { z := res == 0, n := false, h := false, c := out }

/-- The flags of RLCA, RRCA, RLA, RRA: Z is kept, or cleared when ROTA_CLEARS_Z (R220, D6). -/
def rotAFlags (clearsZ : Bool) (old : Flags) (out : Bool) : Flags :=
  { z := if clearsZ then false else old.z, n := false, h := false, c := out }

/-- The flags of BIT: Z the complement of the bit, N = 0, H = 1, C unchanged (R232). -/
def bitFlags (tested : Bool) (old : Flags) : Flags := { z := !tested, n := false, h := true, c := old.c }

end Sys2Proof.Machine
end

