-- ==== Sys2Proof/Machine/Ops.lean ====
section
/-! DEFINITION. The shared operations of the machine: the stack (41_load16_stack.md R160), fatal faults (60_exceptions.md
R301), the interrupt controller (R303 to R310) with the ONE entry into a handler and the return from it, the timer
(R320 to R322), the environment (R330), the countdown of the DMA lockout (20_memory.md R76), the cycles of an instruction
(30_encoding.md R116, R117) and the work that closes a step (R331). -/

namespace Sys2Proof.Machine

/-- What a meaning answers. -/
abbrev Result := Host.Outcome State Fault Refusal

/-! ## The stack -/

/-- `Push16(v)`: the high byte at SP - 1, then the low byte at SP - 2, both gated (R160). -/
def push16 (v : Word) (s : State) : State :=
  let s := s.setSp (s.regs.sp - 1)
  let s := memWrite s s.regs.sp (hiByte v)
  let s := s.setSp (s.regs.sp - 1)
  memWrite s s.regs.sp (loByte v)

/-- `Pop16()`: the low byte at SP, then the high byte at SP + 1 (R160). -/
def pop16 (s : State) : Word × State :=
  (wordOf (memRead s (s.regs.sp + 1)) (memRead s s.regs.sp), s.setSp (s.regs.sp + 1 + 1))

/-! ## Fatal faults -/

/-- `raise Fatal(kind)`: the kind is recorded and nothing else changes; no step follows (R13, R301; log entry 10). -/
def raiseFatal (k : Fault) (s : State) : State := { s with fault := some k }

/-! ## Interrupts -/

/-- The five sources (R302). -/
inductive IntSource where
  | vblank | lcdStat | timer | serial | joypad
  deriving DecidableEq, Repr

/-- The bit of IF and IE (R302). -/
def IntSource.bit (i : IntSource) : Nat :=
  match i with
  | .vblank => 0
  | .lcdStat => 1
  | .timer => 2
  | .serial => 3
  | .joypad => 4

/-- `vector(i) = 0x0040 + 8*i` (R305). -/
def IntSource.vector (i : IntSource) : Word := BitVec.ofNat 16 (0x40 + 8 * i.bit)

/-- A byte with one bit set. -/
def bitMask (n : Nat) : Byte := 1 <<< n

/-- `request(source i)`: IF[i] <- 1 (R303). -/
def requestInterrupt (i : IntSource) (s : State) : State :=
  { s with io := { s.io with ifReg := s.io.ifReg ||| bitMask i.bit } }

/-- Requested and enabled (R302). -/
def pendingEnabled (s : State) (i : IntSource) : Bool := s.io.ifReg.getLsbD i.bit && s.io.ie.getLsbD i.bit

/-- `Candidate()`: the first source, in priority order, requested and enabled; IF and IE are read from storage (R304). -/
def candidate (s : State) : Option IntSource :=
  [IntSource.vblank, .lcdStat, .timer, .serial, .joypad].find? (pendingEnabled s)

/-- The entry into the handler of source `i`: the request bit and IME are cleared, PC is pushed, control goes to the
vector; nothing else is saved or changed (R306). -/
def takeInterrupt (i : IntSource) (s : State) : State :=
  let s := { s with io := { s.io with ifReg := s.io.ifReg &&& ~~~(bitMask i.bit) }, ime := false }
  (push16 s.regs.pc s).setPc i.vector

/-- The return from a handler: PC is popped and IME set (45_control_flow.md R259, R308). -/
def returnFromInterrupt (s : State) : State :=
  { (pop16 s).2.setPc (pop16 s).1 with ime := true }

/-- `ServiceInterrupts(pc)` at an instruction boundary (R306). -/
def serviceInterrupts (s : State) : State :=
  match candidate s with
  | none => s
  | some i => if s.ime then takeInterrupt i s else s

/-- `ServiceHaltInterrupts(pc)` while halted: a requested and enabled source wakes the core whatever IME is, and is
dispatched only with IME set (R310). -/
def serviceHaltInterrupts (s : State) : State :=
  match candidate s with
  | none => s
  | some i =>
    let s := { s with halted := false }
    if s.ime then takeInterrupt i s else s

/-- IME after an instruction under EI_DELAY: an EI executed before this instruction takes effect now, unless this
instruction cancelled it (46_system.md R275, D5; log entry 7). `before` is the state the instruction ran in. -/
def settleEi (before after : State) : State :=
  if before.eiPending && after.eiPending then { after with ime := true, eiPending := false } else after

/-! ## Timer and divider -/

/-- The cycles per TIMA tick that TAC[1:0] selects (10_state.md R39). -/
def timerPeriod (tac : Byte) : Nat :=
  match tac.toNat % 4 with
  | 0 => 1024
  | 1 => 16
  | 2 => 64
  | _ => 256

/-- One tick of TIMA: on overflow it reloads from TMA and requests the timer interrupt (R321). -/
def timerTick (s : State) : State :=
  if s.io.tima = 0xFF then requestInterrupt .timer { s with io := { s.io with tima := s.io.tma } }
  else { s with io := { s.io with tima := s.io.tima + 1 } }

/-- `n` ticks. -/
def timerTicks (n : Nat) (s : State) : State :=
  match n with
  | 0 => s
  | k + 1 => timerTicks k (timerTick s)

/-- The divider: one tick per 256 cycles (R320; the loop of the rule as a quotient and a remainder). -/
def stepDivider (c : Nat) (s : State) : State :=
  { s with io := { s.io with div := s.io.div + BitVec.ofNat 8 ((s.divAcc + c) / 256) }
           divAcc := (s.divAcc + c) % 256 }

/-- The programmable timer: ticks while enabled (R321), accumulator zeroed while disabled (R322). -/
def stepTima (c : Nat) (s : State) : State :=
  if s.io.tac.getLsbD 2 then
    { timerTicks ((s.timaAcc + c) / timerPeriod s.io.tac) s with
      timaAcc := (s.timaAcc + c) % timerPeriod s.io.tac }
  else { s with timaAcc := 0 }

/-- `StepTimer(c)` (R320 to R322). -/
def stepTimer (c : Nat) (s : State) : State := stepTima c (stepDivider c s)

/-! ## The environment -/

/-- The core's number for a source the environment may request (R330). -/
def ExtSource.source (i : ExtSource) : IntSource :=
  match i with
  | .vblank => .vblank
  | .lcdStat => .lcdStat
  | .serial => .serial
  | .joypad => .joypad

/-- A write by the environment to the I/O block: any byte but P1, DIV, TIMA, TMA, TAC, IF, LCDC, DMA and BOOT (R330;
log entry 8). -/
def envWriteIo (offset : BitVec 7) (v : Byte) (s : State) : State :=
  match ioRegAt (0xFF00 + offset.toNat) with
  | none => s.storeCell (0xFF00 + offset.toNat) v
  | some .stat => { s with io := { s.io with stat := v } }
  | some _ => s

/-- One liberty of the environment (R330). -/
def envEvent (s : State) (ev : EnvEvent) : State :=
  match ev with
  | .request i => requestInterrupt i.source s
  | .setStat bits => { s with io := { s.io with stat := (s.io.stat &&& 0xF8) ||| bits.zeroExtend 8 } }
  | .writeIo offset v => envWriteIo offset v s
  | .setJoypad j => { s with joypad := j }

/-- `EnvironmentStep`: the next batch of the schedule; an empty schedule does nothing (R330; log entry 8). DESIGN CHOICE:
R330 lets the environment act before the first step too; the model has no such act of its own, the first batch lands here,
at the end of the first step, and what an earlier act leaves is another start state than `State.reset` (log entry 8). -/
def environmentStep (s : State) : State :=
  match s.env with
  | [] => s
  | batch :: later => batch.foldl envEvent { s with env := later }

/-! ## The step's frame -/

/-- The countdown of the DMA lockout (20_memory.md R76). -/
def dmaCountdown (c : Nat) (s : State) : State := { s with dmaRemaining := s.dmaRemaining - min c s.dmaRemaining }

/-- What closes every step, in the order of R331: the DMA countdown, the timer, the environment, one interrupt scan. -/
def closeStep (c : Nat) (s : State) : State :=
  let s := environmentStep (stepTimer c (dmaCountdown c s))
  if s.halted then serviceHaltInterrupts s else serviceInterrupts s

/-- `Decode(a)`: the instruction at an address, its bytes read gated (30_encoding.md R101, R111; log entry 16). -/
def decodeAt (s : State) (a : Word) : Instr := decodeBytes (memRead s a) (memRead s (a + 1)) (memRead s (a + 2))

/-- The cycles of an instruction in the state it executes in: base, plus the penalty when its condition holds (R117). -/
def cyclesOf (i : Instr) (s : State) : Nat :=
  match conditionOf i with
  | some (cc, _) => (costOf s.params i).1 + (if s.cond cc then (costOf s.params i).2 else 0)
  | none => (costOf s.params i).1

/-- After instruction `i` took `before` to `after`: a fatal fault stops everything at once, no cycles elapse and nothing
is scanned (R301, R309); otherwise the step is closed with the instruction's cycles (R331). -/
def finishInstr (i : Instr) (before after : State) : State :=
  if after.fault.isSome then after else closeStep (cyclesOf i before) (settleEi before after)

/-! ## Placing an instruction where it is fetched (for `State.withFetchWord`) -/

/-- A gated fetch from this address reads a storage cell or a ROM byte. -/
def placeable (s : State) (a : Word) : Bool :=
  !denied s a &&
    match target s a with
    | .cell _ => true
    | .rom _ => true
    | .reg _ => false
    | .extramOff => false
    | .unusable => false

/-- Set the storage cell or ROM byte an address reads, as a loader does. -/
def placeByte (s : State) (a : Word) (v : Byte) : State :=
  match target s a with
  | .cell k => s.storeCell k v
  | .rom k => s.storeCell k v
  | .reg _ => s
  | .extramOff => s
  | .unusable => s

/-- Place three bytes at PC in a core that is neither stopped nor halted; where PC reads no three bytes of storage, in
high RAM instead, which no gate denies (log entry 12). -/
def placeInstr (s : State) (b0 b1 b2 : Byte) : State :=
  let s := { s with fault := none, halted := false }
  let ok := placeable s s.regs.pc && placeable s (s.regs.pc + 1) && placeable s (s.regs.pc + 2)
  let s := if ok then s else s.setPc 0xFF80
  placeByte (placeByte (placeByte s s.regs.pc b0) (s.regs.pc + 1) b1) (s.regs.pc + 2) b2

end Sys2Proof.Machine
end

