-- ==== Sys2Proof/Machine/Alu16.lean ====
section
/-! DEFINITION. The 16-bit arithmetic instructions (43_alu16.md R210 to R213). -/

namespace Sys2Proof.Machine

/-! ## Shared operations -/

/-- ADD HL,rr (R210). -/
def addHl (r : Reg16) (s : State) : State :=
  let (w, fl) := addHlResult s.hl (s.getR16 r) s.flags
  ((s.setHl w).setFlags fl).advance 1

/-- ADD SP,e8 (R211). -/
def addSpDisp (e8 : Byte) (s : State) : State :=
  let (w, fl) := spDispResult s.regs.sp e8
  ((s.setSp w).setFlags fl).advance 2

/-- INC rr: no flag is touched (R212). -/
def inc16 (r : Reg16) (s : State) : State := (s.setR16 r (s.getR16 r + 1)).advance 1

/-- DEC rr: no flag is touched (R213). -/
def dec16 (r : Reg16) (s : State) : State := (s.setR16 r (s.getR16 r - 1)).advance 1

/-! ## The meanings -/

/-- `INC BC` (R212). -/
def execIncBc (s : State) : Result := .next (inc16 .bc s)

/-- `ADD HL,BC` (R210). -/
def execAddHlBc (s : State) : Result := .next (addHl .bc s)

/-- `DEC BC` (R213). -/
def execDecBc (s : State) : Result := .next (dec16 .bc s)

/-- `INC DE` (R212). -/
def execIncDe (s : State) : Result := .next (inc16 .de s)

/-- `ADD HL,DE` (R210). -/
def execAddHlDe (s : State) : Result := .next (addHl .de s)

/-- `DEC DE` (R213). -/
def execDecDe (s : State) : Result := .next (dec16 .de s)

/-- `INC HL` (R212). -/
def execIncHl (s : State) : Result := .next (inc16 .hl s)

/-- `ADD HL,HL` (R210). -/
def execAddHlHl (s : State) : Result := .next (addHl .hl s)

/-- `DEC HL` (R213). -/
def execDecHl (s : State) : Result := .next (dec16 .hl s)

/-- `INC SP` (R212). -/
def execIncSp (s : State) : Result := .next (inc16 .sp s)

/-- `ADD HL,SP` (R210). -/
def execAddHlSp (s : State) : Result := .next (addHl .sp s)

/-- `DEC SP` (R213). -/
def execDecSp (s : State) : Result := .next (dec16 .sp s)

/-- `ADD SP,e8` (R211). -/
def execAddSpE8 (e8 : Byte) (s : State) : Result := .next (addSpDisp e8 s)

end Sys2Proof.Machine
end

