-- ==== Sys2Proof/Machine/Alu8.lean ====
section
/-! DEFINITION. The 8-bit arithmetic and logic instructions (42_alu8.md R180 to R195). -/

namespace Sys2Proof.Machine

/-! ## Shared operations -/

/-- Apply `alu[y]` to A and `v` (R180 to R187). -/
def aluApply (op : AluOp) (v : Byte) (s : State) : State :=
  let (res, fl) := aluResult op s.regs.a v s.flags.c
  (s.setR8 .a res).setFlags fl

/-- The forms `alu A,r` and `alu A,(HL)` (R194). -/
def aluOpd (op : AluOp) (x : Opd8) (s : State) : State := (aluApply op (s.getOpd8 x) s).advance 1

/-- The form `alu A,d8` (R194). -/
def aluImm (op : AluOp) (d8 : Byte) (s : State) : State := (aluApply op d8 s).advance 2

/-- INC (R188): one read, one write, then the flags. -/
def inc8 (x : Opd8) (s : State) : State :=
  let (res, fl) := incResult (s.getOpd8 x) s.flags
  ((s.setOpd8 x res).setFlags fl).advance 1

/-- DEC (R189). -/
def dec8 (x : Opd8) (s : State) : State :=
  let (res, fl) := decResult (s.getOpd8 x) s.flags
  ((s.setOpd8 x res).setFlags fl).advance 1

/-- DAA (R190). -/
def decimalAdjust (s : State) : State :=
  let (res, fl) := daaResult s.regs.a s.flags
  ((s.setR8 .a res).setFlags fl).advance 1

/-- CPL: A complemented, N = H = 1 (R191). -/
def complementA (s : State) : State :=
  ((s.setR8 .a (~~~s.regs.a)).setFlags { s.flags with n := true, h := true }).advance 1

/-- SCF: N = H = 0, C = 1 (R192). -/
def setCarry (s : State) : State := (s.setFlags { s.flags with n := false, h := false, c := true }).advance 1

/-- CCF: N = H = 0, C inverted (R193). -/
def complementCarry (s : State) : State :=
  (s.setFlags { s.flags with n := false, h := false, c := !s.flags.c }).advance 1

/-! ## The meanings -/

/-- `INC B` (R188). -/
def execIncB (s : State) : Result := .next (inc8 (.reg .b) s)

/-- `DEC B` (R189). -/
def execDecB (s : State) : Result := .next (dec8 (.reg .b) s)

/-- `INC C` (R188). -/
def execIncC (s : State) : Result := .next (inc8 (.reg .c) s)

/-- `DEC C` (R189). -/
def execDecC (s : State) : Result := .next (dec8 (.reg .c) s)

/-- `INC D` (R188). -/
def execIncD (s : State) : Result := .next (inc8 (.reg .d) s)

/-- `DEC D` (R189). -/
def execDecD (s : State) : Result := .next (dec8 (.reg .d) s)

/-- `INC E` (R188). -/
def execIncE (s : State) : Result := .next (inc8 (.reg .e) s)

/-- `DEC E` (R189). -/
def execDecE (s : State) : Result := .next (dec8 (.reg .e) s)

/-- `INC H` (R188). -/
def execIncH (s : State) : Result := .next (inc8 (.reg .h) s)

/-- `DEC H` (R189). -/
def execDecH (s : State) : Result := .next (dec8 (.reg .h) s)

/-- `DAA` (R190). -/
def execDaa (s : State) : Result := .next (decimalAdjust s)

/-- `INC L` (R188). -/
def execIncL (s : State) : Result := .next (inc8 (.reg .l) s)

/-- `DEC L` (R189). -/
def execDecL (s : State) : Result := .next (dec8 (.reg .l) s)

/-- `CPL` (R191). -/
def execCpl (s : State) : Result := .next (complementA s)

/-- `INC (HL)` (R188). -/
def execIncAtHl (s : State) : Result := .next (inc8 .atHl s)

/-- `DEC (HL)` (R189). -/
def execDecAtHl (s : State) : Result := .next (dec8 .atHl s)

/-- `SCF` (R192). -/
def execScf (s : State) : Result := .next (setCarry s)

/-- `INC A` (R188). -/
def execIncA (s : State) : Result := .next (inc8 (.reg .a) s)

/-- `DEC A` (R189). -/
def execDecA (s : State) : Result := .next (dec8 (.reg .a) s)

/-- `CCF` (R193). -/
def execCcf (s : State) : Result := .next (complementCarry s)

/-- `ADD A,B` (R180). -/
def execAddAB (s : State) : Result := .next (aluOpd .add (.reg .b) s)

/-- `ADD A,C` (R180). -/
def execAddAC (s : State) : Result := .next (aluOpd .add (.reg .c) s)

/-- `ADD A,D` (R180). -/
def execAddAD (s : State) : Result := .next (aluOpd .add (.reg .d) s)

/-- `ADD A,E` (R180). -/
def execAddAE (s : State) : Result := .next (aluOpd .add (.reg .e) s)

/-- `ADD A,H` (R180). -/
def execAddAH (s : State) : Result := .next (aluOpd .add (.reg .h) s)

/-- `ADD A,L` (R180). -/
def execAddAL (s : State) : Result := .next (aluOpd .add (.reg .l) s)

/-- `ADD A,(HL)` (R180). -/
def execAddAAtHl (s : State) : Result := .next (aluOpd .add .atHl s)

/-- `ADD A,A` (R180). -/
def execAddAA (s : State) : Result := .next (aluOpd .add (.reg .a) s)

/-- `ADC A,B` (R181). -/
def execAdcAB (s : State) : Result := .next (aluOpd .adc (.reg .b) s)

/-- `ADC A,C` (R181). -/
def execAdcAC (s : State) : Result := .next (aluOpd .adc (.reg .c) s)

/-- `ADC A,D` (R181). -/
def execAdcAD (s : State) : Result := .next (aluOpd .adc (.reg .d) s)

/-- `ADC A,E` (R181). -/
def execAdcAE (s : State) : Result := .next (aluOpd .adc (.reg .e) s)

/-- `ADC A,H` (R181). -/
def execAdcAH (s : State) : Result := .next (aluOpd .adc (.reg .h) s)

/-- `ADC A,L` (R181). -/
def execAdcAL (s : State) : Result := .next (aluOpd .adc (.reg .l) s)

/-- `ADC A,(HL)` (R181). -/
def execAdcAAtHl (s : State) : Result := .next (aluOpd .adc .atHl s)

/-- `ADC A,A` (R181). -/
def execAdcAA (s : State) : Result := .next (aluOpd .adc (.reg .a) s)

/-- `SUB B` (R182). -/
def execSubB (s : State) : Result := .next (aluOpd .sub (.reg .b) s)

/-- `SUB C` (R182). -/
def execSubC (s : State) : Result := .next (aluOpd .sub (.reg .c) s)

/-- `SUB D` (R182). -/
def execSubD (s : State) : Result := .next (aluOpd .sub (.reg .d) s)

/-- `SUB E` (R182). -/
def execSubE (s : State) : Result := .next (aluOpd .sub (.reg .e) s)

/-- `SUB H` (R182). -/
def execSubH (s : State) : Result := .next (aluOpd .sub (.reg .h) s)

/-- `SUB L` (R182). -/
def execSubL (s : State) : Result := .next (aluOpd .sub (.reg .l) s)

/-- `SUB (HL)` (R182). -/
def execSubAtHl (s : State) : Result := .next (aluOpd .sub .atHl s)

/-- `SUB A` (R182). -/
def execSubA (s : State) : Result := .next (aluOpd .sub (.reg .a) s)

/-- `SBC A,B` (R183). -/
def execSbcAB (s : State) : Result := .next (aluOpd .sbc (.reg .b) s)

/-- `SBC A,C` (R183). -/
def execSbcAC (s : State) : Result := .next (aluOpd .sbc (.reg .c) s)

/-- `SBC A,D` (R183). -/
def execSbcAD (s : State) : Result := .next (aluOpd .sbc (.reg .d) s)

/-- `SBC A,E` (R183). -/
def execSbcAE (s : State) : Result := .next (aluOpd .sbc (.reg .e) s)

/-- `SBC A,H` (R183). -/
def execSbcAH (s : State) : Result := .next (aluOpd .sbc (.reg .h) s)

/-- `SBC A,L` (R183). -/
def execSbcAL (s : State) : Result := .next (aluOpd .sbc (.reg .l) s)

/-- `SBC A,(HL)` (R183). -/
def execSbcAAtHl (s : State) : Result := .next (aluOpd .sbc .atHl s)

/-- `SBC A,A` (R183). -/
def execSbcAA (s : State) : Result := .next (aluOpd .sbc (.reg .a) s)

/-- `AND B` (R184). -/
def execAndB (s : State) : Result := .next (aluOpd .and (.reg .b) s)

/-- `AND C` (R184). -/
def execAndC (s : State) : Result := .next (aluOpd .and (.reg .c) s)

/-- `AND D` (R184). -/
def execAndD (s : State) : Result := .next (aluOpd .and (.reg .d) s)

/-- `AND E` (R184). -/
def execAndE (s : State) : Result := .next (aluOpd .and (.reg .e) s)

/-- `AND H` (R184). -/
def execAndH (s : State) : Result := .next (aluOpd .and (.reg .h) s)

/-- `AND L` (R184). -/
def execAndL (s : State) : Result := .next (aluOpd .and (.reg .l) s)

/-- `AND (HL)` (R184). -/
def execAndAtHl (s : State) : Result := .next (aluOpd .and .atHl s)

/-- `AND A` (R184). -/
def execAndA (s : State) : Result := .next (aluOpd .and (.reg .a) s)

/-- `XOR B` (R185). -/
def execXorB (s : State) : Result := .next (aluOpd .xor (.reg .b) s)

/-- `XOR C` (R185). -/
def execXorC (s : State) : Result := .next (aluOpd .xor (.reg .c) s)

/-- `XOR D` (R185). -/
def execXorD (s : State) : Result := .next (aluOpd .xor (.reg .d) s)

/-- `XOR E` (R185). -/
def execXorE (s : State) : Result := .next (aluOpd .xor (.reg .e) s)

/-- `XOR H` (R185). -/
def execXorH (s : State) : Result := .next (aluOpd .xor (.reg .h) s)

/-- `XOR L` (R185). -/
def execXorL (s : State) : Result := .next (aluOpd .xor (.reg .l) s)

/-- `XOR (HL)` (R185). -/
def execXorAtHl (s : State) : Result := .next (aluOpd .xor .atHl s)

/-- `XOR A` (R185). -/
def execXorA (s : State) : Result := .next (aluOpd .xor (.reg .a) s)

/-- `OR B` (R186). -/
def execOrB (s : State) : Result := .next (aluOpd .or (.reg .b) s)

/-- `OR C` (R186). -/
def execOrC (s : State) : Result := .next (aluOpd .or (.reg .c) s)

/-- `OR D` (R186). -/
def execOrD (s : State) : Result := .next (aluOpd .or (.reg .d) s)

/-- `OR E` (R186). -/
def execOrE (s : State) : Result := .next (aluOpd .or (.reg .e) s)

/-- `OR H` (R186). -/
def execOrH (s : State) : Result := .next (aluOpd .or (.reg .h) s)

/-- `OR L` (R186). -/
def execOrL (s : State) : Result := .next (aluOpd .or (.reg .l) s)

/-- `OR (HL)` (R186). -/
def execOrAtHl (s : State) : Result := .next (aluOpd .or .atHl s)

/-- `OR A` (R186). -/
def execOrA (s : State) : Result := .next (aluOpd .or (.reg .a) s)

/-- `CP B` (R187). -/
def execCpB (s : State) : Result := .next (aluOpd .cp (.reg .b) s)

/-- `CP C` (R187). -/
def execCpC (s : State) : Result := .next (aluOpd .cp (.reg .c) s)

/-- `CP D` (R187). -/
def execCpD (s : State) : Result := .next (aluOpd .cp (.reg .d) s)

/-- `CP E` (R187). -/
def execCpE (s : State) : Result := .next (aluOpd .cp (.reg .e) s)

/-- `CP H` (R187). -/
def execCpH (s : State) : Result := .next (aluOpd .cp (.reg .h) s)

/-- `CP L` (R187). -/
def execCpL (s : State) : Result := .next (aluOpd .cp (.reg .l) s)

/-- `CP (HL)` (R187). -/
def execCpAtHl (s : State) : Result := .next (aluOpd .cp .atHl s)

/-- `CP A` (R187). -/
def execCpA (s : State) : Result := .next (aluOpd .cp (.reg .a) s)

/-- `ADD A,d8` (R180). -/
def execAddAD8 (d8 : Byte) (s : State) : Result := .next (aluImm .add d8 s)

/-- `ADC A,d8` (R181). -/
def execAdcAD8 (d8 : Byte) (s : State) : Result := .next (aluImm .adc d8 s)

/-- `SUB d8` (R182). -/
def execSubD8 (d8 : Byte) (s : State) : Result := .next (aluImm .sub d8 s)

/-- `SBC A,d8` (R183). -/
def execSbcAD8 (d8 : Byte) (s : State) : Result := .next (aluImm .sbc d8 s)

/-- `AND d8` (R184). -/
def execAndD8 (d8 : Byte) (s : State) : Result := .next (aluImm .and d8 s)

/-- `XOR d8` (R185). -/
def execXorD8 (d8 : Byte) (s : State) : Result := .next (aluImm .xor d8 s)

/-- `OR d8` (R186). -/
def execOrD8 (d8 : Byte) (s : State) : Result := .next (aluImm .or d8 s)

/-- `CP d8` (R187). -/
def execCpD8 (d8 : Byte) (s : State) : Result := .next (aluImm .cp d8 s)

end Sys2Proof.Machine
end

