-- ==== Sys2Proof/Machine/Control.lean ====
section
/-! DEFINITION. The control-transfer instructions (45_control_flow.md R250 to R261). No flag is written. -/

namespace Sys2Proof.Machine

/-! ## Shared operations -/

/-- `PC <- imm16` (R250). -/
def jumpAbs (a16 : Word) (s : State) : State := s.setPc a16

/-- JP cc,a16 (R251). -/
def jumpAbsIf (cc : Cond) (a16 : Word) (s : State) : State := if s.cond cc then s.setPc a16 else s.advance 3

/-- `PC <- HL` (R252): no memory is read. -/
def jumpHl (s : State) : State := s.setPc s.hl

/-- `PC <- next + e8`, next = pc0 + 2 (R253). -/
def jumpRel (e8 : Byte) (s : State) : State := s.setPc (s.nextPc 2 + sext16 e8)

/-- JR cc,e8 (R254). -/
def jumpRelIf (cc : Cond) (e8 : Byte) (s : State) : State :=
  if s.cond cc then s.setPc (s.nextPc 2 + sext16 e8) else s.advance 2

/-- `Push16(next); PC <- imm16`, next = pc0 + 3 (R255). -/
def callAbs (a16 : Word) (s : State) : State := (push16 (s.nextPc 3) s).setPc a16

/-- CALL cc,a16 (R256). -/
def callAbsIf (cc : Cond) (a16 : Word) (s : State) : State :=
  if s.cond cc then (push16 (s.nextPc 3) s).setPc a16 else s.advance 3

/-- `PC <- Pop16()` (R257). -/
def returnNear (s : State) : State := (pop16 s).2.setPc (pop16 s).1

/-- RET cc (R258). -/
def returnIf (cc : Cond) (s : State) : State :=
  if s.cond cc then (pop16 s).2.setPc (pop16 s).1 else s.advance 1

/-- `Push16(next); PC <- 8*y`, next = pc0 + 1 (R260). -/
def restart (y : Octal) (s : State) : State := (push16 (s.nextPc 1) s).setPc (BitVec.ofNat 16 (8 * y.toNat))

/-! ## The meanings (RETI calls the return of Machine/Ops.lean) -/

/-- `JR e8` (R253). -/
def execJrE8 (e8 : Byte) (s : State) : Result := .next (jumpRel e8 s)

/-- `JR NZ,e8` (R254). -/
def execJrNzE8 (e8 : Byte) (s : State) : Result := .next (jumpRelIf .nz e8 s)

/-- `JR Z,e8` (R254). -/
def execJrZE8 (e8 : Byte) (s : State) : Result := .next (jumpRelIf .z e8 s)

/-- `JR NC,e8` (R254). -/
def execJrNcE8 (e8 : Byte) (s : State) : Result := .next (jumpRelIf .nc e8 s)

/-- `JR C,e8` (R254). -/
def execJrCE8 (e8 : Byte) (s : State) : Result := .next (jumpRelIf .c e8 s)

/-- `RET NZ` (R258). -/
def execRetNz (s : State) : Result := .next (returnIf .nz s)

/-- `JP NZ,a16` (R251). -/
def execJpNzA16 (a16 : Word) (s : State) : Result := .next (jumpAbsIf .nz a16 s)

/-- `JP a16` (R250). -/
def execJpA16 (a16 : Word) (s : State) : Result := .next (jumpAbs a16 s)

/-- `CALL NZ,a16` (R256). -/
def execCallNzA16 (a16 : Word) (s : State) : Result := .next (callAbsIf .nz a16 s)

/-- `RST 00H` (R260). -/
def execRst00 (s : State) : Result := .next (restart .o0 s)

/-- `RET Z` (R258). -/
def execRetZ (s : State) : Result := .next (returnIf .z s)

/-- `RET` (R257). -/
def execRet (s : State) : Result := .next (returnNear s)

/-- `JP Z,a16` (R251). -/
def execJpZA16 (a16 : Word) (s : State) : Result := .next (jumpAbsIf .z a16 s)

/-- `CALL Z,a16` (R256). -/
def execCallZA16 (a16 : Word) (s : State) : Result := .next (callAbsIf .z a16 s)

/-- `CALL a16` (R255). -/
def execCallA16 (a16 : Word) (s : State) : Result := .next (callAbs a16 s)

/-- `RST 08H` (R260). -/
def execRst08 (s : State) : Result := .next (restart .o1 s)

/-- `RET NC` (R258). -/
def execRetNc (s : State) : Result := .next (returnIf .nc s)

/-- `JP NC,a16` (R251). -/
def execJpNcA16 (a16 : Word) (s : State) : Result := .next (jumpAbsIf .nc a16 s)

/-- `CALL NC,a16` (R256). -/
def execCallNcA16 (a16 : Word) (s : State) : Result := .next (callAbsIf .nc a16 s)

/-- `RST 10H` (R260). -/
def execRst10 (s : State) : Result := .next (restart .o2 s)

/-- `RET C` (R258). -/
def execRetC (s : State) : Result := .next (returnIf .c s)

/-- `RETI` (R259). -/
def execReti (s : State) : Result := .next (returnFromInterrupt s)

/-- `JP C,a16` (R251). -/
def execJpCA16 (a16 : Word) (s : State) : Result := .next (jumpAbsIf .c a16 s)

/-- `CALL C,a16` (R256). -/
def execCallCA16 (a16 : Word) (s : State) : Result := .next (callAbsIf .c a16 s)

/-- `RST 18H` (R260). -/
def execRst18 (s : State) : Result := .next (restart .o3 s)

/-- `RST 20H` (R260). -/
def execRst20 (s : State) : Result := .next (restart .o4 s)

/-- `JP HL` (R252). -/
def execJpHl (s : State) : Result := .next (jumpHl s)

/-- `RST 28H` (R260). -/
def execRst28 (s : State) : Result := .next (restart .o5 s)

/-- `RST 30H` (R260). -/
def execRst30 (s : State) : Result := .next (restart .o6 s)

/-- `RST 38H` (R260). -/
def execRst38 (s : State) : Result := .next (restart .o7 s)

end Sys2Proof.Machine
end

