-- ==== Sys2Proof/Machine/Load16.lean ====
section
/-! DEFINITION. The 16-bit loads and the stack instructions (41_load16_stack.md R161 to R167). -/

namespace Sys2Proof.Machine

/-! ## Shared operations -/

/-- `r16[p] <- imm16` (R161). -/
def load16Imm (r : Reg16) (d16 : Word) (s : State) : State := (s.setR16 r d16).advance 3

/-- `MemWrite(imm16, 1, SP[7:0]); MemWrite(imm16 + 1, 1, SP[15:8])` (R162). -/
def storeSp (a16 : Word) (s : State) : State := (memWrite16 s a16 s.regs.sp).advance 3

/-- `SP <- HL` (R163). -/
def loadSpHl (s : State) : State := (s.setSp s.hl).advance 1

/-- `HL <- SP + e8`, with the flags of R165. -/
def loadHlSpDisp (e8 : Byte) (s : State) : State :=
  let (w, fl) := spDispResult s.regs.sp e8
  ((s.setHl w).setFlags fl).advance 2

/-- `Push16(r16stk[p])` (R166). -/
def pushReg (r : Stk16) (s : State) : State := (push16 (s.getStk r) s).advance 1

/-- `r16stk[p] <- Pop16()` (R167). -/
def popReg (r : Stk16) (s : State) : State := ((pop16 s).2.setStk r (pop16 s).1).advance 1

/-! ## The meanings -/

/-- `LD BC,d16` (R161). -/
def execLdBcD16 (d16 : Word) (s : State) : Result := .next (load16Imm .bc d16 s)

/-- `LD (a16),SP` (R162). -/
def execLdAtA16Sp (a16 : Word) (s : State) : Result := .next (storeSp a16 s)

/-- `LD DE,d16` (R161). -/
def execLdDeD16 (d16 : Word) (s : State) : Result := .next (load16Imm .de d16 s)

/-- `LD HL,d16` (R161). -/
def execLdHlD16 (d16 : Word) (s : State) : Result := .next (load16Imm .hl d16 s)

/-- `LD SP,d16` (R161). -/
def execLdSpD16 (d16 : Word) (s : State) : Result := .next (load16Imm .sp d16 s)

/-- `POP BC` (R167). -/
def execPopBc (s : State) : Result := .next (popReg .bc s)

/-- `PUSH BC` (R166). -/
def execPushBc (s : State) : Result := .next (pushReg .bc s)

/-- `POP DE` (R167). -/
def execPopDe (s : State) : Result := .next (popReg .de s)

/-- `PUSH DE` (R166). -/
def execPushDe (s : State) : Result := .next (pushReg .de s)

/-- `POP HL` (R167). -/
def execPopHl (s : State) : Result := .next (popReg .hl s)

/-- `PUSH HL` (R166). -/
def execPushHl (s : State) : Result := .next (pushReg .hl s)

/-- `POP AF` (R167). -/
def execPopAf (s : State) : Result := .next (popReg .af s)

/-- `PUSH AF` (R166). -/
def execPushAf (s : State) : Result := .next (pushReg .af s)

/-- `LDHL SP,e8` (R165). -/
def execLdhlSpE8 (e8 : Byte) (s : State) : Result := .next (loadHlSpDisp e8 s)

/-- `LD SP,HL` (R163). -/
def execLdSpHl (s : State) : Result := .next (loadSpHl s)

end Sys2Proof.Machine
end

