-- ==== Sys2Proof/Machine/Load8.lean ====
section
/-! DEFINITION. The 8-bit loads (40_load8.md R130 to R148). No flag is written, nothing faults. -/

namespace Sys2Proof.Machine

/-! ## Shared operations -/

/-- `r8[y] <- r8[z]` (R130). -/
def loadRegReg (r src : Reg8) (s : State) : State := (s.setR8 r (s.getR8 src)).advance 1

/-- `r8[y] <- MemRead(HL, 1)` (R131). -/
def loadRegMem (r : Reg8) (s : State) : State := (s.setR8 r (memRead s s.hl)).advance 1

/-- `MemWrite(HL, 1, r8[z])` (R132). -/
def storeReg (r : Reg8) (s : State) : State := (memWrite s s.hl (s.getR8 r)).advance 1

/-- `r8[y] <- imm8` (R133). -/
def loadRegImm (r : Reg8) (d8 : Byte) (s : State) : State := (s.setR8 r d8).advance 2

/-- `MemWrite(HL, 1, imm8)` (R134). -/
def storeImm (d8 : Byte) (s : State) : State := (memWrite s s.hl d8).advance 2

/-- `MemWrite(addr, 1, A)` by an instruction of `len` bytes (R135, R136, R143, R145, R147). -/
def storeA (addr : Word) (len : Nat) (s : State) : State := (memWrite s addr s.regs.a).advance len

/-- `A <- MemRead(addr, 1)` by an instruction of `len` bytes (R137, R138, R144, R146, R148). -/
def loadA (addr : Word) (len : Nat) (s : State) : State := (s.setR8 .a (memRead s addr)).advance len

/-- `MemWrite(HL, 1, A); HL <- HL + d` (R139, R140): HL moves even when the write is denied. -/
def storeAStep (d : Word) (s : State) : State :=
  let t := memWrite s s.hl s.regs.a
  (t.setHl (t.hl + d)).advance 1

/-- `A <- MemRead(HL, 1); HL <- HL + d` (R141, R142). -/
def loadAStep (d : Word) (s : State) : State :=
  let t := s.setR8 .a (memRead s s.hl)
  (t.setHl (t.hl + d)).advance 1

/-! ## The meanings -/

/-- `LD (BC),A` (R135). -/
def execLdAtBcA (s : State) : Result := .next (storeA s.bc 1 s)

/-- `LD B,d8` (R133). -/
def execLdBD8 (d8 : Byte) (s : State) : Result := .next (loadRegImm .b d8 s)

/-- `LD A,(BC)` (R137). -/
def execLdAAtBc (s : State) : Result := .next (loadA s.bc 1 s)

/-- `LD C,d8` (R133). -/
def execLdCD8 (d8 : Byte) (s : State) : Result := .next (loadRegImm .c d8 s)

/-- `LD (DE),A` (R136). -/
def execLdAtDeA (s : State) : Result := .next (storeA s.de 1 s)

/-- `LD D,d8` (R133). -/
def execLdDD8 (d8 : Byte) (s : State) : Result := .next (loadRegImm .d d8 s)

/-- `LD A,(DE)` (R138). -/
def execLdAAtDe (s : State) : Result := .next (loadA s.de 1 s)

/-- `LD E,d8` (R133). -/
def execLdED8 (d8 : Byte) (s : State) : Result := .next (loadRegImm .e d8 s)

/-- `LD (HL+),A` (R139). -/
def execLdAtHlIncA (s : State) : Result := .next (storeAStep 1 s)

/-- `LD H,d8` (R133). -/
def execLdHD8 (d8 : Byte) (s : State) : Result := .next (loadRegImm .h d8 s)

/-- `LD A,(HL+)` (R141). -/
def execLdAAtHlInc (s : State) : Result := .next (loadAStep 1 s)

/-- `LD L,d8` (R133). -/
def execLdLD8 (d8 : Byte) (s : State) : Result := .next (loadRegImm .l d8 s)

/-- `LD (HL-),A` (R140). -/
def execLdAtHlDecA (s : State) : Result := .next (storeAStep (-1) s)

/-- `LD (HL),d8` (R134). -/
def execLdAtHlD8 (d8 : Byte) (s : State) : Result := .next (storeImm d8 s)

/-- `LD A,(HL-)` (R142). -/
def execLdAAtHlDec (s : State) : Result := .next (loadAStep (-1) s)

/-- `LD A,d8` (R133). -/
def execLdAD8 (d8 : Byte) (s : State) : Result := .next (loadRegImm .a d8 s)

/-- `LD B,B` (R130). -/
def execLdBB (s : State) : Result := .next (loadRegReg .b .b s)

/-- `LD B,C` (R130). -/
def execLdBC (s : State) : Result := .next (loadRegReg .b .c s)

/-- `LD B,D` (R130). -/
def execLdBD (s : State) : Result := .next (loadRegReg .b .d s)

/-- `LD B,E` (R130). -/
def execLdBE (s : State) : Result := .next (loadRegReg .b .e s)

/-- `LD B,H` (R130). -/
def execLdBH (s : State) : Result := .next (loadRegReg .b .h s)

/-- `LD B,L` (R130). -/
def execLdBL (s : State) : Result := .next (loadRegReg .b .l s)

/-- `LD B,(HL)` (R131). -/
def execLdBAtHl (s : State) : Result := .next (loadRegMem .b s)

/-- `LD B,A` (R130). -/
def execLdBA (s : State) : Result := .next (loadRegReg .b .a s)

/-- `LD C,B` (R130). -/
def execLdCB (s : State) : Result := .next (loadRegReg .c .b s)

/-- `LD C,C` (R130). -/
def execLdCC (s : State) : Result := .next (loadRegReg .c .c s)

/-- `LD C,D` (R130). -/
def execLdCD (s : State) : Result := .next (loadRegReg .c .d s)

/-- `LD C,E` (R130). -/
def execLdCE (s : State) : Result := .next (loadRegReg .c .e s)

/-- `LD C,H` (R130). -/
def execLdCH (s : State) : Result := .next (loadRegReg .c .h s)

/-- `LD C,L` (R130). -/
def execLdCL (s : State) : Result := .next (loadRegReg .c .l s)

/-- `LD C,(HL)` (R131). -/
def execLdCAtHl (s : State) : Result := .next (loadRegMem .c s)

/-- `LD C,A` (R130). -/
def execLdCA (s : State) : Result := .next (loadRegReg .c .a s)

/-- `LD D,B` (R130). -/
def execLdDB (s : State) : Result := .next (loadRegReg .d .b s)

/-- `LD D,C` (R130). -/
def execLdDC (s : State) : Result := .next (loadRegReg .d .c s)

/-- `LD D,D` (R130). -/
def execLdDD (s : State) : Result := .next (loadRegReg .d .d s)

/-- `LD D,E` (R130). -/
def execLdDE (s : State) : Result := .next (loadRegReg .d .e s)

/-- `LD D,H` (R130). -/
def execLdDH (s : State) : Result := .next (loadRegReg .d .h s)

/-- `LD D,L` (R130). -/
def execLdDL (s : State) : Result := .next (loadRegReg .d .l s)

/-- `LD D,(HL)` (R131). -/
def execLdDAtHl (s : State) : Result := .next (loadRegMem .d s)

/-- `LD D,A` (R130). -/
def execLdDA (s : State) : Result := .next (loadRegReg .d .a s)

/-- `LD E,B` (R130). -/
def execLdEB (s : State) : Result := .next (loadRegReg .e .b s)

/-- `LD E,C` (R130). -/
def execLdEC (s : State) : Result := .next (loadRegReg .e .c s)

/-- `LD E,D` (R130). -/
def execLdED (s : State) : Result := .next (loadRegReg .e .d s)

/-- `LD E,E` (R130). -/
def execLdEE (s : State) : Result := .next (loadRegReg .e .e s)

/-- `LD E,H` (R130). -/
def execLdEH (s : State) : Result := .next (loadRegReg .e .h s)

/-- `LD E,L` (R130). -/
def execLdEL (s : State) : Result := .next (loadRegReg .e .l s)

/-- `LD E,(HL)` (R131). -/
def execLdEAtHl (s : State) : Result := .next (loadRegMem .e s)

/-- `LD E,A` (R130). -/
def execLdEA (s : State) : Result := .next (loadRegReg .e .a s)

/-- `LD H,B` (R130). -/
def execLdHB (s : State) : Result := .next (loadRegReg .h .b s)

/-- `LD H,C` (R130). -/
def execLdHC (s : State) : Result := .next (loadRegReg .h .c s)

/-- `LD H,D` (R130). -/
def execLdHD (s : State) : Result := .next (loadRegReg .h .d s)

/-- `LD H,E` (R130). -/
def execLdHE (s : State) : Result := .next (loadRegReg .h .e s)

/-- `LD H,H` (R130). -/
def execLdHH (s : State) : Result := .next (loadRegReg .h .h s)

/-- `LD H,L` (R130). -/
def execLdHL (s : State) : Result := .next (loadRegReg .h .l s)

/-- `LD H,(HL)` (R131). -/
def execLdHAtHl (s : State) : Result := .next (loadRegMem .h s)

/-- `LD H,A` (R130). -/
def execLdHA (s : State) : Result := .next (loadRegReg .h .a s)

/-- `LD L,B` (R130). -/
def execLdLB (s : State) : Result := .next (loadRegReg .l .b s)

/-- `LD L,C` (R130). -/
def execLdLC (s : State) : Result := .next (loadRegReg .l .c s)

/-- `LD L,D` (R130). -/
def execLdLD (s : State) : Result := .next (loadRegReg .l .d s)

/-- `LD L,E` (R130). -/
def execLdLE (s : State) : Result := .next (loadRegReg .l .e s)

/-- `LD L,H` (R130). -/
def execLdLH (s : State) : Result := .next (loadRegReg .l .h s)

/-- `LD L,L` (R130). -/
def execLdLL (s : State) : Result := .next (loadRegReg .l .l s)

/-- `LD L,(HL)` (R131). -/
def execLdLAtHl (s : State) : Result := .next (loadRegMem .l s)

/-- `LD L,A` (R130). -/
def execLdLA (s : State) : Result := .next (loadRegReg .l .a s)

/-- `LD (HL),B` (R132). -/
def execLdAtHlB (s : State) : Result := .next (storeReg .b s)

/-- `LD (HL),C` (R132). -/
def execLdAtHlC (s : State) : Result := .next (storeReg .c s)

/-- `LD (HL),D` (R132). -/
def execLdAtHlD (s : State) : Result := .next (storeReg .d s)

/-- `LD (HL),E` (R132). -/
def execLdAtHlE (s : State) : Result := .next (storeReg .e s)

/-- `LD (HL),H` (R132). -/
def execLdAtHlH (s : State) : Result := .next (storeReg .h s)

/-- `LD (HL),L` (R132). -/
def execLdAtHlL (s : State) : Result := .next (storeReg .l s)

/-- `LD (HL),A` (R132). -/
def execLdAtHlA (s : State) : Result := .next (storeReg .a s)

/-- `LD A,B` (R130). -/
def execLdAB (s : State) : Result := .next (loadRegReg .a .b s)

/-- `LD A,C` (R130). -/
def execLdAC (s : State) : Result := .next (loadRegReg .a .c s)

/-- `LD A,D` (R130). -/
def execLdAD (s : State) : Result := .next (loadRegReg .a .d s)

/-- `LD A,E` (R130). -/
def execLdAE (s : State) : Result := .next (loadRegReg .a .e s)

/-- `LD A,H` (R130). -/
def execLdAH (s : State) : Result := .next (loadRegReg .a .h s)

/-- `LD A,L` (R130). -/
def execLdAL (s : State) : Result := .next (loadRegReg .a .l s)

/-- `LD A,(HL)` (R131). -/
def execLdAAtHl (s : State) : Result := .next (loadRegMem .a s)

/-- `LD A,A` (R130). -/
def execLdAA (s : State) : Result := .next (loadRegReg .a .a s)

/-- `LDH (a8),A` (R143). -/
def execLdhAtA8A (a8 : Byte) (s : State) : Result := .next (storeA (highPage a8) 2 s)

/-- `LD (C),A` (R145). -/
def execLdAtCA (s : State) : Result := .next (storeA (highPage s.regs.c) 1 s)

/-- `LD (a16),A` (R147). -/
def execLdAtA16A (a16 : Word) (s : State) : Result := .next (storeA a16 3 s)

/-- `LDH A,(a8)` (R144). -/
def execLdhAAtA8 (a8 : Byte) (s : State) : Result := .next (loadA (highPage a8) 2 s)

/-- `LD A,(C)` (R146). -/
def execLdAAtC (s : State) : Result := .next (loadA (highPage s.regs.c) 1 s)

/-- `LD A,(a16)` (R148). -/
def execLdAAtA16 (a16 : Word) (s : State) : Result := .next (loadA a16 3 s)

end Sys2Proof.Machine
end

