-- ==== Sys2Proof/Machine/RotateBit.lean ====
section
/-! DEFINITION. Rotates, shifts and bit operations (44_rotate_shift_bit.md R220 to R236). -/

namespace Sys2Proof.Machine

/-! ## Shared operations -/

/-- RLCA, RRCA, RLA, RRA (R220 to R223). -/
def rotateA (op : RotOp) (s : State) : State :=
  let (res, out) := rotResult op s.regs.a s.flags.c
  ((s.setR8 .a res).setFlags (rotAFlags s.params.rotaClearsZ s.flags out)).advance 1

/-- A rotate or shift of the extended page (R224 to R231, R235, R236): one read, one write, then the flags. -/
def rotateOpd (op : RotOp) (x : Opd8) (s : State) : State :=
  let (res, out) := rotResult op (s.getOpd8 x) s.flags.c
  ((s.setOpd8 x res).setFlags (rotFlags res out)).advance 2

/-- BIT b,x: one read, no write (R232). -/
def bitTest (b : Octal) (x : Opd8) (s : State) : State :=
  (s.setFlags (bitFlags ((s.getOpd8 x).getLsbD b.toNat) s.flags)).advance 2

/-- RES b,x: `r8[z] <- a & ~(0x01 << b)`, no flag (R233). -/
def bitReset (b : Octal) (x : Opd8) (s : State) : State :=
  (s.setOpd8 x (s.getOpd8 x &&& ~~~(bitMask b.toNat))).advance 2

/-- SET b,x: `r8[z] <- a | (0x01 << b)`, no flag (R234). -/
def bitSet (b : Octal) (x : Opd8) (s : State) : State :=
  (s.setOpd8 x (s.getOpd8 x ||| bitMask b.toNat)).advance 2

/-! ## The meanings -/

/-- `RLCA` (R220). -/
def execRlca (s : State) : Result := .next (rotateA .rlc s)

/-- `RRCA` (R221). -/
def execRrca (s : State) : Result := .next (rotateA .rrc s)

/-- `RLA` (R222). -/
def execRla (s : State) : Result := .next (rotateA .rl s)

/-- `RRA` (R223). -/
def execRra (s : State) : Result := .next (rotateA .rr s)

/-- `RLC B` (R224). -/
def execRlcB (s : State) : Result := .next (rotateOpd .rlc (.reg .b) s)

/-- `RLC C` (R224). -/
def execRlcC (s : State) : Result := .next (rotateOpd .rlc (.reg .c) s)

/-- `RLC D` (R224). -/
def execRlcD (s : State) : Result := .next (rotateOpd .rlc (.reg .d) s)

/-- `RLC E` (R224). -/
def execRlcE (s : State) : Result := .next (rotateOpd .rlc (.reg .e) s)

/-- `RLC H` (R224). -/
def execRlcH (s : State) : Result := .next (rotateOpd .rlc (.reg .h) s)

/-- `RLC L` (R224). -/
def execRlcL (s : State) : Result := .next (rotateOpd .rlc (.reg .l) s)

/-- `RLC (HL)` (R224). -/
def execRlcAtHl (s : State) : Result := .next (rotateOpd .rlc .atHl s)

/-- `RLC A` (R224). -/
def execRlcA (s : State) : Result := .next (rotateOpd .rlc (.reg .a) s)

/-- `RRC B` (R225). -/
def execRrcB (s : State) : Result := .next (rotateOpd .rrc (.reg .b) s)

/-- `RRC C` (R225). -/
def execRrcC (s : State) : Result := .next (rotateOpd .rrc (.reg .c) s)

/-- `RRC D` (R225). -/
def execRrcD (s : State) : Result := .next (rotateOpd .rrc (.reg .d) s)

/-- `RRC E` (R225). -/
def execRrcE (s : State) : Result := .next (rotateOpd .rrc (.reg .e) s)

/-- `RRC H` (R225). -/
def execRrcH (s : State) : Result := .next (rotateOpd .rrc (.reg .h) s)

/-- `RRC L` (R225). -/
def execRrcL (s : State) : Result := .next (rotateOpd .rrc (.reg .l) s)

/-- `RRC (HL)` (R225). -/
def execRrcAtHl (s : State) : Result := .next (rotateOpd .rrc .atHl s)

/-- `RRC A` (R225). -/
def execRrcA (s : State) : Result := .next (rotateOpd .rrc (.reg .a) s)

/-- `RL B` (R226). -/
def execRlB (s : State) : Result := .next (rotateOpd .rl (.reg .b) s)

/-- `RL C` (R226). -/
def execRlC (s : State) : Result := .next (rotateOpd .rl (.reg .c) s)

/-- `RL D` (R226). -/
def execRlD (s : State) : Result := .next (rotateOpd .rl (.reg .d) s)

/-- `RL E` (R226). -/
def execRlE (s : State) : Result := .next (rotateOpd .rl (.reg .e) s)

/-- `RL H` (R226). -/
def execRlH (s : State) : Result := .next (rotateOpd .rl (.reg .h) s)

/-- `RL L` (R226). -/
def execRlL (s : State) : Result := .next (rotateOpd .rl (.reg .l) s)

/-- `RL (HL)` (R226). -/
def execRlAtHl (s : State) : Result := .next (rotateOpd .rl .atHl s)

/-- `RL A` (R226). -/
def execRlA (s : State) : Result := .next (rotateOpd .rl (.reg .a) s)

/-- `RR B` (R227). -/
def execRrB (s : State) : Result := .next (rotateOpd .rr (.reg .b) s)

/-- `RR C` (R227). -/
def execRrC (s : State) : Result := .next (rotateOpd .rr (.reg .c) s)

/-- `RR D` (R227). -/
def execRrD (s : State) : Result := .next (rotateOpd .rr (.reg .d) s)

/-- `RR E` (R227). -/
def execRrE (s : State) : Result := .next (rotateOpd .rr (.reg .e) s)

/-- `RR H` (R227). -/
def execRrH (s : State) : Result := .next (rotateOpd .rr (.reg .h) s)

/-- `RR L` (R227). -/
def execRrL (s : State) : Result := .next (rotateOpd .rr (.reg .l) s)

/-- `RR (HL)` (R227). -/
def execRrAtHl (s : State) : Result := .next (rotateOpd .rr .atHl s)

/-- `RR A` (R227). -/
def execRrA (s : State) : Result := .next (rotateOpd .rr (.reg .a) s)

/-- `SLA B` (R228). -/
def execSlaB (s : State) : Result := .next (rotateOpd .sla (.reg .b) s)

/-- `SLA C` (R228). -/
def execSlaC (s : State) : Result := .next (rotateOpd .sla (.reg .c) s)

/-- `SLA D` (R228). -/
def execSlaD (s : State) : Result := .next (rotateOpd .sla (.reg .d) s)

/-- `SLA E` (R228). -/
def execSlaE (s : State) : Result := .next (rotateOpd .sla (.reg .e) s)

/-- `SLA H` (R228). -/
def execSlaH (s : State) : Result := .next (rotateOpd .sla (.reg .h) s)

/-- `SLA L` (R228). -/
def execSlaL (s : State) : Result := .next (rotateOpd .sla (.reg .l) s)

/-- `SLA (HL)` (R228). -/
def execSlaAtHl (s : State) : Result := .next (rotateOpd .sla .atHl s)

/-- `SLA A` (R228). -/
def execSlaA (s : State) : Result := .next (rotateOpd .sla (.reg .a) s)

/-- `SRA B` (R229). -/
def execSraB (s : State) : Result := .next (rotateOpd .sra (.reg .b) s)

/-- `SRA C` (R229). -/
def execSraC (s : State) : Result := .next (rotateOpd .sra (.reg .c) s)

/-- `SRA D` (R229). -/
def execSraD (s : State) : Result := .next (rotateOpd .sra (.reg .d) s)

/-- `SRA E` (R229). -/
def execSraE (s : State) : Result := .next (rotateOpd .sra (.reg .e) s)

/-- `SRA H` (R229). -/
def execSraH (s : State) : Result := .next (rotateOpd .sra (.reg .h) s)

/-- `SRA L` (R229). -/
def execSraL (s : State) : Result := .next (rotateOpd .sra (.reg .l) s)

/-- `SRA (HL)` (R229). -/
def execSraAtHl (s : State) : Result := .next (rotateOpd .sra .atHl s)

/-- `SRA A` (R229). -/
def execSraA (s : State) : Result := .next (rotateOpd .sra (.reg .a) s)

/-- `SWAP B` (R230). -/
def execSwapB (s : State) : Result := .next (rotateOpd .swap (.reg .b) s)

/-- `SWAP C` (R230). -/
def execSwapC (s : State) : Result := .next (rotateOpd .swap (.reg .c) s)

/-- `SWAP D` (R230). -/
def execSwapD (s : State) : Result := .next (rotateOpd .swap (.reg .d) s)

/-- `SWAP E` (R230). -/
def execSwapE (s : State) : Result := .next (rotateOpd .swap (.reg .e) s)

/-- `SWAP H` (R230). -/
def execSwapH (s : State) : Result := .next (rotateOpd .swap (.reg .h) s)

/-- `SWAP L` (R230). -/
def execSwapL (s : State) : Result := .next (rotateOpd .swap (.reg .l) s)

/-- `SWAP (HL)` (R230). -/
def execSwapAtHl (s : State) : Result := .next (rotateOpd .swap .atHl s)

/-- `SWAP A` (R230). -/
def execSwapA (s : State) : Result := .next (rotateOpd .swap (.reg .a) s)

/-- `SRL B` (R231). -/
def execSrlB (s : State) : Result := .next (rotateOpd .srl (.reg .b) s)

/-- `SRL C` (R231). -/
def execSrlC (s : State) : Result := .next (rotateOpd .srl (.reg .c) s)

/-- `SRL D` (R231). -/
def execSrlD (s : State) : Result := .next (rotateOpd .srl (.reg .d) s)

/-- `SRL E` (R231). -/
def execSrlE (s : State) : Result := .next (rotateOpd .srl (.reg .e) s)

/-- `SRL H` (R231). -/
def execSrlH (s : State) : Result := .next (rotateOpd .srl (.reg .h) s)

/-- `SRL L` (R231). -/
def execSrlL (s : State) : Result := .next (rotateOpd .srl (.reg .l) s)

/-- `SRL (HL)` (R231). -/
def execSrlAtHl (s : State) : Result := .next (rotateOpd .srl .atHl s)

/-- `SRL A` (R231). -/
def execSrlA (s : State) : Result := .next (rotateOpd .srl (.reg .a) s)

/-- `BIT 0,B` (R232). -/
def execBit0B (s : State) : Result := .next (bitTest .o0 (.reg .b) s)

/-- `BIT 0,C` (R232). -/
def execBit0C (s : State) : Result := .next (bitTest .o0 (.reg .c) s)

/-- `BIT 0,D` (R232). -/
def execBit0D (s : State) : Result := .next (bitTest .o0 (.reg .d) s)

/-- `BIT 0,E` (R232). -/
def execBit0E (s : State) : Result := .next (bitTest .o0 (.reg .e) s)

/-- `BIT 0,H` (R232). -/
def execBit0H (s : State) : Result := .next (bitTest .o0 (.reg .h) s)

/-- `BIT 0,L` (R232). -/
def execBit0L (s : State) : Result := .next (bitTest .o0 (.reg .l) s)

/-- `BIT 0,(HL)` (R232). -/
def execBit0AtHl (s : State) : Result := .next (bitTest .o0 .atHl s)

/-- `BIT 0,A` (R232). -/
def execBit0A (s : State) : Result := .next (bitTest .o0 (.reg .a) s)

/-- `BIT 1,B` (R232). -/
def execBit1B (s : State) : Result := .next (bitTest .o1 (.reg .b) s)

/-- `BIT 1,C` (R232). -/
def execBit1C (s : State) : Result := .next (bitTest .o1 (.reg .c) s)

/-- `BIT 1,D` (R232). -/
def execBit1D (s : State) : Result := .next (bitTest .o1 (.reg .d) s)

/-- `BIT 1,E` (R232). -/
def execBit1E (s : State) : Result := .next (bitTest .o1 (.reg .e) s)

/-- `BIT 1,H` (R232). -/
def execBit1H (s : State) : Result := .next (bitTest .o1 (.reg .h) s)

/-- `BIT 1,L` (R232). -/
def execBit1L (s : State) : Result := .next (bitTest .o1 (.reg .l) s)

/-- `BIT 1,(HL)` (R232). -/
def execBit1AtHl (s : State) : Result := .next (bitTest .o1 .atHl s)

/-- `BIT 1,A` (R232). -/
def execBit1A (s : State) : Result := .next (bitTest .o1 (.reg .a) s)

/-- `BIT 2,B` (R232). -/
def execBit2B (s : State) : Result := .next (bitTest .o2 (.reg .b) s)

/-- `BIT 2,C` (R232). -/
def execBit2C (s : State) : Result := .next (bitTest .o2 (.reg .c) s)

/-- `BIT 2,D` (R232). -/
def execBit2D (s : State) : Result := .next (bitTest .o2 (.reg .d) s)

/-- `BIT 2,E` (R232). -/
def execBit2E (s : State) : Result := .next (bitTest .o2 (.reg .e) s)

/-- `BIT 2,H` (R232). -/
def execBit2H (s : State) : Result := .next (bitTest .o2 (.reg .h) s)

/-- `BIT 2,L` (R232). -/
def execBit2L (s : State) : Result := .next (bitTest .o2 (.reg .l) s)

/-- `BIT 2,(HL)` (R232). -/
def execBit2AtHl (s : State) : Result := .next (bitTest .o2 .atHl s)

/-- `BIT 2,A` (R232). -/
def execBit2A (s : State) : Result := .next (bitTest .o2 (.reg .a) s)

/-- `BIT 3,B` (R232). -/
def execBit3B (s : State) : Result := .next (bitTest .o3 (.reg .b) s)

/-- `BIT 3,C` (R232). -/
def execBit3C (s : State) : Result := .next (bitTest .o3 (.reg .c) s)

/-- `BIT 3,D` (R232). -/
def execBit3D (s : State) : Result := .next (bitTest .o3 (.reg .d) s)

/-- `BIT 3,E` (R232). -/
def execBit3E (s : State) : Result := .next (bitTest .o3 (.reg .e) s)

/-- `BIT 3,H` (R232). -/
def execBit3H (s : State) : Result := .next (bitTest .o3 (.reg .h) s)

/-- `BIT 3,L` (R232). -/
def execBit3L (s : State) : Result := .next (bitTest .o3 (.reg .l) s)

/-- `BIT 3,(HL)` (R232). -/
def execBit3AtHl (s : State) : Result := .next (bitTest .o3 .atHl s)

/-- `BIT 3,A` (R232). -/
def execBit3A (s : State) : Result := .next (bitTest .o3 (.reg .a) s)

/-- `BIT 4,B` (R232). -/
def execBit4B (s : State) : Result := .next (bitTest .o4 (.reg .b) s)

/-- `BIT 4,C` (R232). -/
def execBit4C (s : State) : Result := .next (bitTest .o4 (.reg .c) s)

/-- `BIT 4,D` (R232). -/
def execBit4D (s : State) : Result := .next (bitTest .o4 (.reg .d) s)

/-- `BIT 4,E` (R232). -/
def execBit4E (s : State) : Result := .next (bitTest .o4 (.reg .e) s)

/-- `BIT 4,H` (R232). -/
def execBit4H (s : State) : Result := .next (bitTest .o4 (.reg .h) s)

/-- `BIT 4,L` (R232). -/
def execBit4L (s : State) : Result := .next (bitTest .o4 (.reg .l) s)

/-- `BIT 4,(HL)` (R232). -/
def execBit4AtHl (s : State) : Result := .next (bitTest .o4 .atHl s)

/-- `BIT 4,A` (R232). -/
def execBit4A (s : State) : Result := .next (bitTest .o4 (.reg .a) s)

/-- `BIT 5,B` (R232). -/
def execBit5B (s : State) : Result := .next (bitTest .o5 (.reg .b) s)

/-- `BIT 5,C` (R232). -/
def execBit5C (s : State) : Result := .next (bitTest .o5 (.reg .c) s)

/-- `BIT 5,D` (R232). -/
def execBit5D (s : State) : Result := .next (bitTest .o5 (.reg .d) s)

/-- `BIT 5,E` (R232). -/
def execBit5E (s : State) : Result := .next (bitTest .o5 (.reg .e) s)

/-- `BIT 5,H` (R232). -/
def execBit5H (s : State) : Result := .next (bitTest .o5 (.reg .h) s)

/-- `BIT 5,L` (R232). -/
def execBit5L (s : State) : Result := .next (bitTest .o5 (.reg .l) s)

/-- `BIT 5,(HL)` (R232). -/
def execBit5AtHl (s : State) : Result := .next (bitTest .o5 .atHl s)

/-- `BIT 5,A` (R232). -/
def execBit5A (s : State) : Result := .next (bitTest .o5 (.reg .a) s)

/-- `BIT 6,B` (R232). -/
def execBit6B (s : State) : Result := .next (bitTest .o6 (.reg .b) s)

/-- `BIT 6,C` (R232). -/
def execBit6C (s : State) : Result := .next (bitTest .o6 (.reg .c) s)

/-- `BIT 6,D` (R232). -/
def execBit6D (s : State) : Result := .next (bitTest .o6 (.reg .d) s)

/-- `BIT 6,E` (R232). -/
def execBit6E (s : State) : Result := .next (bitTest .o6 (.reg .e) s)

/-- `BIT 6,H` (R232). -/
def execBit6H (s : State) : Result := .next (bitTest .o6 (.reg .h) s)

/-- `BIT 6,L` (R232). -/
def execBit6L (s : State) : Result := .next (bitTest .o6 (.reg .l) s)

/-- `BIT 6,(HL)` (R232). -/
def execBit6AtHl (s : State) : Result := .next (bitTest .o6 .atHl s)

/-- `BIT 6,A` (R232). -/
def execBit6A (s : State) : Result := .next (bitTest .o6 (.reg .a) s)

/-- `BIT 7,B` (R232). -/
def execBit7B (s : State) : Result := .next (bitTest .o7 (.reg .b) s)

/-- `BIT 7,C` (R232). -/
def execBit7C (s : State) : Result := .next (bitTest .o7 (.reg .c) s)

/-- `BIT 7,D` (R232). -/
def execBit7D (s : State) : Result := .next (bitTest .o7 (.reg .d) s)

/-- `BIT 7,E` (R232). -/
def execBit7E (s : State) : Result := .next (bitTest .o7 (.reg .e) s)

/-- `BIT 7,H` (R232). -/
def execBit7H (s : State) : Result := .next (bitTest .o7 (.reg .h) s)

/-- `BIT 7,L` (R232). -/
def execBit7L (s : State) : Result := .next (bitTest .o7 (.reg .l) s)

/-- `BIT 7,(HL)` (R232). -/
def execBit7AtHl (s : State) : Result := .next (bitTest .o7 .atHl s)

/-- `BIT 7,A` (R232). -/
def execBit7A (s : State) : Result := .next (bitTest .o7 (.reg .a) s)

/-- `RES 0,B` (R233). -/
def execRes0B (s : State) : Result := .next (bitReset .o0 (.reg .b) s)

/-- `RES 0,C` (R233). -/
def execRes0C (s : State) : Result := .next (bitReset .o0 (.reg .c) s)

/-- `RES 0,D` (R233). -/
def execRes0D (s : State) : Result := .next (bitReset .o0 (.reg .d) s)

/-- `RES 0,E` (R233). -/
def execRes0E (s : State) : Result := .next (bitReset .o0 (.reg .e) s)

/-- `RES 0,H` (R233). -/
def execRes0H (s : State) : Result := .next (bitReset .o0 (.reg .h) s)

/-- `RES 0,L` (R233). -/
def execRes0L (s : State) : Result := .next (bitReset .o0 (.reg .l) s)

/-- `RES 0,(HL)` (R233). -/
def execRes0AtHl (s : State) : Result := .next (bitReset .o0 .atHl s)

/-- `RES 0,A` (R233). -/
def execRes0A (s : State) : Result := .next (bitReset .o0 (.reg .a) s)

/-- `RES 1,B` (R233). -/
def execRes1B (s : State) : Result := .next (bitReset .o1 (.reg .b) s)

/-- `RES 1,C` (R233). -/
def execRes1C (s : State) : Result := .next (bitReset .o1 (.reg .c) s)

/-- `RES 1,D` (R233). -/
def execRes1D (s : State) : Result := .next (bitReset .o1 (.reg .d) s)

/-- `RES 1,E` (R233). -/
def execRes1E (s : State) : Result := .next (bitReset .o1 (.reg .e) s)

/-- `RES 1,H` (R233). -/
def execRes1H (s : State) : Result := .next (bitReset .o1 (.reg .h) s)

/-- `RES 1,L` (R233). -/
def execRes1L (s : State) : Result := .next (bitReset .o1 (.reg .l) s)

/-- `RES 1,(HL)` (R233). -/
def execRes1AtHl (s : State) : Result := .next (bitReset .o1 .atHl s)

/-- `RES 1,A` (R233). -/
def execRes1A (s : State) : Result := .next (bitReset .o1 (.reg .a) s)

/-- `RES 2,B` (R233). -/
def execRes2B (s : State) : Result := .next (bitReset .o2 (.reg .b) s)

/-- `RES 2,C` (R233). -/
def execRes2C (s : State) : Result := .next (bitReset .o2 (.reg .c) s)

/-- `RES 2,D` (R233). -/
def execRes2D (s : State) : Result := .next (bitReset .o2 (.reg .d) s)

/-- `RES 2,E` (R233). -/
def execRes2E (s : State) : Result := .next (bitReset .o2 (.reg .e) s)

/-- `RES 2,H` (R233). -/
def execRes2H (s : State) : Result := .next (bitReset .o2 (.reg .h) s)

/-- `RES 2,L` (R233). -/
def execRes2L (s : State) : Result := .next (bitReset .o2 (.reg .l) s)

/-- `RES 2,(HL)` (R233). -/
def execRes2AtHl (s : State) : Result := .next (bitReset .o2 .atHl s)

/-- `RES 2,A` (R233). -/
def execRes2A (s : State) : Result := .next (bitReset .o2 (.reg .a) s)

/-- `RES 3,B` (R233). -/
def execRes3B (s : State) : Result := .next (bitReset .o3 (.reg .b) s)

/-- `RES 3,C` (R233). -/
def execRes3C (s : State) : Result := .next (bitReset .o3 (.reg .c) s)

/-- `RES 3,D` (R233). -/
def execRes3D (s : State) : Result := .next (bitReset .o3 (.reg .d) s)

/-- `RES 3,E` (R233). -/
def execRes3E (s : State) : Result := .next (bitReset .o3 (.reg .e) s)

/-- `RES 3,H` (R233). -/
def execRes3H (s : State) : Result := .next (bitReset .o3 (.reg .h) s)

/-- `RES 3,L` (R233). -/
def execRes3L (s : State) : Result := .next (bitReset .o3 (.reg .l) s)

/-- `RES 3,(HL)` (R233). -/
def execRes3AtHl (s : State) : Result := .next (bitReset .o3 .atHl s)

/-- `RES 3,A` (R233). -/
def execRes3A (s : State) : Result := .next (bitReset .o3 (.reg .a) s)

/-- `RES 4,B` (R233). -/
def execRes4B (s : State) : Result := .next (bitReset .o4 (.reg .b) s)

/-- `RES 4,C` (R233). -/
def execRes4C (s : State) : Result := .next (bitReset .o4 (.reg .c) s)

/-- `RES 4,D` (R233). -/
def execRes4D (s : State) : Result := .next (bitReset .o4 (.reg .d) s)

/-- `RES 4,E` (R233). -/
def execRes4E (s : State) : Result := .next (bitReset .o4 (.reg .e) s)

/-- `RES 4,H` (R233). -/
def execRes4H (s : State) : Result := .next (bitReset .o4 (.reg .h) s)

/-- `RES 4,L` (R233). -/
def execRes4L (s : State) : Result := .next (bitReset .o4 (.reg .l) s)

/-- `RES 4,(HL)` (R233). -/
def execRes4AtHl (s : State) : Result := .next (bitReset .o4 .atHl s)

/-- `RES 4,A` (R233). -/
def execRes4A (s : State) : Result := .next (bitReset .o4 (.reg .a) s)

/-- `RES 5,B` (R233). -/
def execRes5B (s : State) : Result := .next (bitReset .o5 (.reg .b) s)

/-- `RES 5,C` (R233). -/
def execRes5C (s : State) : Result := .next (bitReset .o5 (.reg .c) s)

/-- `RES 5,D` (R233). -/
def execRes5D (s : State) : Result := .next (bitReset .o5 (.reg .d) s)

/-- `RES 5,E` (R233). -/
def execRes5E (s : State) : Result := .next (bitReset .o5 (.reg .e) s)

/-- `RES 5,H` (R233). -/
def execRes5H (s : State) : Result := .next (bitReset .o5 (.reg .h) s)

/-- `RES 5,L` (R233). -/
def execRes5L (s : State) : Result := .next (bitReset .o5 (.reg .l) s)

/-- `RES 5,(HL)` (R233). -/
def execRes5AtHl (s : State) : Result := .next (bitReset .o5 .atHl s)

/-- `RES 5,A` (R233). -/
def execRes5A (s : State) : Result := .next (bitReset .o5 (.reg .a) s)

/-- `RES 6,B` (R233). -/
def execRes6B (s : State) : Result := .next (bitReset .o6 (.reg .b) s)

/-- `RES 6,C` (R233). -/
def execRes6C (s : State) : Result := .next (bitReset .o6 (.reg .c) s)

/-- `RES 6,D` (R233). -/
def execRes6D (s : State) : Result := .next (bitReset .o6 (.reg .d) s)

/-- `RES 6,E` (R233). -/
def execRes6E (s : State) : Result := .next (bitReset .o6 (.reg .e) s)

/-- `RES 6,H` (R233). -/
def execRes6H (s : State) : Result := .next (bitReset .o6 (.reg .h) s)

/-- `RES 6,L` (R233). -/
def execRes6L (s : State) : Result := .next (bitReset .o6 (.reg .l) s)

/-- `RES 6,(HL)` (R233). -/
def execRes6AtHl (s : State) : Result := .next (bitReset .o6 .atHl s)

/-- `RES 6,A` (R233). -/
def execRes6A (s : State) : Result := .next (bitReset .o6 (.reg .a) s)

/-- `RES 7,B` (R233). -/
def execRes7B (s : State) : Result := .next (bitReset .o7 (.reg .b) s)

/-- `RES 7,C` (R233). -/
def execRes7C (s : State) : Result := .next (bitReset .o7 (.reg .c) s)

/-- `RES 7,D` (R233). -/
def execRes7D (s : State) : Result := .next (bitReset .o7 (.reg .d) s)

/-- `RES 7,E` (R233). -/
def execRes7E (s : State) : Result := .next (bitReset .o7 (.reg .e) s)

/-- `RES 7,H` (R233). -/
def execRes7H (s : State) : Result := .next (bitReset .o7 (.reg .h) s)

/-- `RES 7,L` (R233). -/
def execRes7L (s : State) : Result := .next (bitReset .o7 (.reg .l) s)

/-- `RES 7,(HL)` (R233). -/
def execRes7AtHl (s : State) : Result := .next (bitReset .o7 .atHl s)

/-- `RES 7,A` (R233). -/
def execRes7A (s : State) : Result := .next (bitReset .o7 (.reg .a) s)

/-- `SET 0,B` (R234). -/
def execSet0B (s : State) : Result := .next (bitSet .o0 (.reg .b) s)

/-- `SET 0,C` (R234). -/
def execSet0C (s : State) : Result := .next (bitSet .o0 (.reg .c) s)

/-- `SET 0,D` (R234). -/
def execSet0D (s : State) : Result := .next (bitSet .o0 (.reg .d) s)

/-- `SET 0,E` (R234). -/
def execSet0E (s : State) : Result := .next (bitSet .o0 (.reg .e) s)

/-- `SET 0,H` (R234). -/
def execSet0H (s : State) : Result := .next (bitSet .o0 (.reg .h) s)

/-- `SET 0,L` (R234). -/
def execSet0L (s : State) : Result := .next (bitSet .o0 (.reg .l) s)

/-- `SET 0,(HL)` (R234). -/
def execSet0AtHl (s : State) : Result := .next (bitSet .o0 .atHl s)

/-- `SET 0,A` (R234). -/
def execSet0A (s : State) : Result := .next (bitSet .o0 (.reg .a) s)

/-- `SET 1,B` (R234). -/
def execSet1B (s : State) : Result := .next (bitSet .o1 (.reg .b) s)

/-- `SET 1,C` (R234). -/
def execSet1C (s : State) : Result := .next (bitSet .o1 (.reg .c) s)

/-- `SET 1,D` (R234). -/
def execSet1D (s : State) : Result := .next (bitSet .o1 (.reg .d) s)

/-- `SET 1,E` (R234). -/
def execSet1E (s : State) : Result := .next (bitSet .o1 (.reg .e) s)

/-- `SET 1,H` (R234). -/
def execSet1H (s : State) : Result := .next (bitSet .o1 (.reg .h) s)

/-- `SET 1,L` (R234). -/
def execSet1L (s : State) : Result := .next (bitSet .o1 (.reg .l) s)

/-- `SET 1,(HL)` (R234). -/
def execSet1AtHl (s : State) : Result := .next (bitSet .o1 .atHl s)

/-- `SET 1,A` (R234). -/
def execSet1A (s : State) : Result := .next (bitSet .o1 (.reg .a) s)

/-- `SET 2,B` (R234). -/
def execSet2B (s : State) : Result := .next (bitSet .o2 (.reg .b) s)

/-- `SET 2,C` (R234). -/
def execSet2C (s : State) : Result := .next (bitSet .o2 (.reg .c) s)

/-- `SET 2,D` (R234). -/
def execSet2D (s : State) : Result := .next (bitSet .o2 (.reg .d) s)

/-- `SET 2,E` (R234). -/
def execSet2E (s : State) : Result := .next (bitSet .o2 (.reg .e) s)

/-- `SET 2,H` (R234). -/
def execSet2H (s : State) : Result := .next (bitSet .o2 (.reg .h) s)

/-- `SET 2,L` (R234). -/
def execSet2L (s : State) : Result := .next (bitSet .o2 (.reg .l) s)

/-- `SET 2,(HL)` (R234). -/
def execSet2AtHl (s : State) : Result := .next (bitSet .o2 .atHl s)

/-- `SET 2,A` (R234). -/
def execSet2A (s : State) : Result := .next (bitSet .o2 (.reg .a) s)

/-- `SET 3,B` (R234). -/
def execSet3B (s : State) : Result := .next (bitSet .o3 (.reg .b) s)

/-- `SET 3,C` (R234). -/
def execSet3C (s : State) : Result := .next (bitSet .o3 (.reg .c) s)

/-- `SET 3,D` (R234). -/
def execSet3D (s : State) : Result := .next (bitSet .o3 (.reg .d) s)

/-- `SET 3,E` (R234). -/
def execSet3E (s : State) : Result := .next (bitSet .o3 (.reg .e) s)

/-- `SET 3,H` (R234). -/
def execSet3H (s : State) : Result := .next (bitSet .o3 (.reg .h) s)

/-- `SET 3,L` (R234). -/
def execSet3L (s : State) : Result := .next (bitSet .o3 (.reg .l) s)

/-- `SET 3,(HL)` (R234). -/
def execSet3AtHl (s : State) : Result := .next (bitSet .o3 .atHl s)

/-- `SET 3,A` (R234). -/
def execSet3A (s : State) : Result := .next (bitSet .o3 (.reg .a) s)

/-- `SET 4,B` (R234). -/
def execSet4B (s : State) : Result := .next (bitSet .o4 (.reg .b) s)

/-- `SET 4,C` (R234). -/
def execSet4C (s : State) : Result := .next (bitSet .o4 (.reg .c) s)

/-- `SET 4,D` (R234). -/
def execSet4D (s : State) : Result := .next (bitSet .o4 (.reg .d) s)

/-- `SET 4,E` (R234). -/
def execSet4E (s : State) : Result := .next (bitSet .o4 (.reg .e) s)

/-- `SET 4,H` (R234). -/
def execSet4H (s : State) : Result := .next (bitSet .o4 (.reg .h) s)

/-- `SET 4,L` (R234). -/
def execSet4L (s : State) : Result := .next (bitSet .o4 (.reg .l) s)

/-- `SET 4,(HL)` (R234). -/
def execSet4AtHl (s : State) : Result := .next (bitSet .o4 .atHl s)

/-- `SET 4,A` (R234). -/
def execSet4A (s : State) : Result := .next (bitSet .o4 (.reg .a) s)

/-- `SET 5,B` (R234). -/
def execSet5B (s : State) : Result := .next (bitSet .o5 (.reg .b) s)

/-- `SET 5,C` (R234). -/
def execSet5C (s : State) : Result := .next (bitSet .o5 (.reg .c) s)

/-- `SET 5,D` (R234). -/
def execSet5D (s : State) : Result := .next (bitSet .o5 (.reg .d) s)

/-- `SET 5,E` (R234). -/
def execSet5E (s : State) : Result := .next (bitSet .o5 (.reg .e) s)

/-- `SET 5,H` (R234). -/
def execSet5H (s : State) : Result := .next (bitSet .o5 (.reg .h) s)

/-- `SET 5,L` (R234). -/
def execSet5L (s : State) : Result := .next (bitSet .o5 (.reg .l) s)

/-- `SET 5,(HL)` (R234). -/
def execSet5AtHl (s : State) : Result := .next (bitSet .o5 .atHl s)

/-- `SET 5,A` (R234). -/
def execSet5A (s : State) : Result := .next (bitSet .o5 (.reg .a) s)

/-- `SET 6,B` (R234). -/
def execSet6B (s : State) : Result := .next (bitSet .o6 (.reg .b) s)

/-- `SET 6,C` (R234). -/
def execSet6C (s : State) : Result := .next (bitSet .o6 (.reg .c) s)

/-- `SET 6,D` (R234). -/
def execSet6D (s : State) : Result := .next (bitSet .o6 (.reg .d) s)

/-- `SET 6,E` (R234). -/
def execSet6E (s : State) : Result := .next (bitSet .o6 (.reg .e) s)

/-- `SET 6,H` (R234). -/
def execSet6H (s : State) : Result := .next (bitSet .o6 (.reg .h) s)

/-- `SET 6,L` (R234). -/
def execSet6L (s : State) : Result := .next (bitSet .o6 (.reg .l) s)

/-- `SET 6,(HL)` (R234). -/
def execSet6AtHl (s : State) : Result := .next (bitSet .o6 .atHl s)

/-- `SET 6,A` (R234). -/
def execSet6A (s : State) : Result := .next (bitSet .o6 (.reg .a) s)

/-- `SET 7,B` (R234). -/
def execSet7B (s : State) : Result := .next (bitSet .o7 (.reg .b) s)

/-- `SET 7,C` (R234). -/
def execSet7C (s : State) : Result := .next (bitSet .o7 (.reg .c) s)

/-- `SET 7,D` (R234). -/
def execSet7D (s : State) : Result := .next (bitSet .o7 (.reg .d) s)

/-- `SET 7,E` (R234). -/
def execSet7E (s : State) : Result := .next (bitSet .o7 (.reg .e) s)

/-- `SET 7,H` (R234). -/
def execSet7H (s : State) : Result := .next (bitSet .o7 (.reg .h) s)

/-- `SET 7,L` (R234). -/
def execSet7L (s : State) : Result := .next (bitSet .o7 (.reg .l) s)

/-- `SET 7,(HL)` (R234). -/
def execSet7AtHl (s : State) : Result := .next (bitSet .o7 .atHl s)

/-- `SET 7,A` (R234). -/
def execSet7A (s : State) : Result := .next (bitSet .o7 (.reg .a) s)

end Sys2Proof.Machine
end

