-- ==== Sys2Proof/Machine/System.lean ====
section
/-! DEFINITION. The system instructions, the prefix and the undefined opcodes (46_system.md R270 to R276). -/

namespace Sys2Proof.Machine

/-! ## Shared operations -/

/-- `PC <- next` (R270). -/
def noOperation (s : State) : State := s.advance 1

/-- `halted <- true; PC <- next`; IME is not consulted (R271). -/
def enterHalt (s : State) : State := { s.advance 1 with halted := true }

/-- `IME <- false`, immediately; a waiting EI is cancelled (R273, D5; log entry 7). -/
def disableInterrupts (s : State) : State := { s.advance 1 with ime := false, eiPending := false }

/-- `IME <- true` immediately; under EI_DELAY only after the instruction that follows (R275, D5; log entry 7). -/
def enableInterrupts (s : State) : State :=
  if s.params.eiDelay then { s.advance 1 with eiPending := !s.ime } else { s.advance 1 with ime := true }

/-- The pair of the prefix and its second byte is one instruction of the extended page (R274, 30_encoding.md R107). -/
def extendedPage (op2 : Byte) (s : State) : State :=
  match fieldX op2 with
  | 0 => rotateOpd (rotTable (fieldY op2)) (r8Table (fieldZ op2)) s
  | 1 => bitTest (fieldY op2) (r8Table (fieldZ op2)) s
  | 2 => bitReset (fieldY op2) (r8Table (fieldZ op2)) s
  | _ => bitSet (fieldY op2) (r8Table (fieldZ op2)) s

/-! ## The meanings -/

/-- `NOP` (R270). -/
def execNop (s : State) : Result := .next (noOperation s)

/-- `STOP` (R272). -/
def execStop (_pad : Byte) (s : State) : Result := .next (raiseFatal (.executorError "STOP") s)

/-- `HALT` (R271). -/
def execHalt (s : State) : Result := .next (enterHalt s)

/-- `PREFIX CB` (R274). -/
def execPrefixCb (op2 : Byte) (s : State) : Result := .next (extendedPage op2 s)

/-- `UNDEFINED` (R276). -/
def execUndefined (op : Byte) (s : State) : Result := .next (raiseFatal (.decodeError op) s)

/-- `DI` (R273). -/
def execDi (s : State) : Result := .next (disableInterrupts s)

/-- `EI` (R275). -/
def execEi (s : State) : Result := .next (enableInterrupts s)

end Sys2Proof.Machine
end

