-- ==== Sys2Proof/Machine/Step.lean ====
section
/-! DEFINITION. One step of the core (60_exceptions.md R331), and the placing of a table word where the next step
fetches. -/

namespace Sys2Proof.Machine

/-- `Step()` (R331). A state that has recorded a fault has no further step (R47, R301); a halted core lets
HALT_IDLE_CYCLES elapse (R312); otherwise one instruction is decoded and executed and the step is closed. -/
def step (s : State) : Host.Outcome State Fault Refusal :=
  match s.fault with
  | some k => .fault k
  | none =>
    if s.halted then .next (closeStep s.params.haltIdleCycles s)
    else
      match exec (decodeAt s s.regs.pc) s with
      | .next t => .next (finishInstr (decodeAt s s.regs.pc) s t)
      | .fault k => .fault k
      | .refused r => .refused r

/-- `s` with the instruction of a table word stored where `step` fetches its next instruction (log entries 11, 12). -/
def State.withFetchWord (s : State) (nbits w : Nat) : State :=
  match tableBytes nbits w with
  | (b0, b1, b2) => placeInstr s b0 b1 b2

end Sys2Proof.Machine
end

