-- ==== Sys2Proof/Safety.lean ====
section
/-! DEFINITION. What counts as a safe run (70_reset_and_hazards.md R367, D31), the invariant of the machine, and the
words the statements about instructions are written in: what an instruction writes and that it writes nothing else. -/

namespace Sys2Proof

open Machine

/-! ## Runs -/

/-- "a faulted state is never a successful end" (R367): no fatal kind is recorded. -/
def Safe (s : State) : Prop := s.fault = none

/-- The run of `n` steps from `s` ends in `t` without a fault. -/
def SafeRun (n : Nat) (s t : State) : Prop := core.run n s = .next t ∧ Safe t

/-- The first arrival of PC at `a`, after `n` steps from `s` (R367). -/
def ArrivesAt (n : Nat) (s : State) (a : Word) : Prop :=
  (∃ t, SafeRun n s t ∧ t.regs.pc = a) ∧ ∀ k < n, ∀ t, core.run k s = .next t → t.regs.pc ≠ a

/-- The terminal idle state a claim may name: halted with no source enabled (R367). -/
def TerminalIdle (s : State) : Prop := Safe s ∧ s.halted = true ∧ s.io.ie.toNat % 32 = 0

/-! ## The invariant -/

/-- What holds of every state a run reaches: storage is in canonical form, the low nibble of F is zero (10_state.md R24),
`dma_remaining` and `div_acc` are in the ranges of R33 and R34, `tima_acc` is below the longest period (R34), and an EI
waits only where the parameter EI_DELAY allows it and while IME is false (log entry 7). -/
structure Inv (s : State) : Prop where
  storage      : s.mem.wf = true
  flagNibble   : s.regs.f.toNat % 16 = 0
  dmaRemaining : s.dmaRemaining ≤ 648
  divAcc       : s.divAcc < 256
  timaAcc      : s.timaAcc < 1024
  eiPending    : s.eiPending = true → s.params.eiDelay = true ∧ s.ime = false

/-! ## Values the rules give by arithmetic -/

/-- F with the flags Z, N, H, C, as a number: they are bits 7, 6, 5 and 4, and bits 3:0 are 0 (10_state.md R23, R24). -/
def flagByte (z n h c : Bool) : Byte :=
  BitVec.ofNat 8 (128 * z.toNat + 64 * n.toNat + 32 * h.toNat + 16 * c.toNat)

/-- Whether a condition of the table `cc` (00_scope.md R10) holds for a value of F: Z is its bit 7, C its bit 4. -/
def condHolds (cc : Cond) (f : Byte) : Bool :=
  match cc with
  | .nz => decide (f.toNat / 128 % 2 = 0)
  | .z => decide (f.toNat / 128 % 2 = 1)
  | .nc => decide (f.toNat / 16 % 2 = 0)
  | .c => decide (f.toNat / 16 % 2 = 1)

/-- The result of a rotate or shift of the byte `a` with carry `c`, and the bit shifted out, by arithmetic
(44_rotate_shift_bit.md R224 to R231). -/
def rotArith (op : RotOp) (a c : Nat) : Nat × Nat :=
  match op with
  | .rlc => (2 * a % 256 + a / 128, a / 128)
  | .rrc => (a / 2 + 128 * (a % 2), a % 2)
  | .rl => (2 * a % 256 + c, a / 128)
  | .rr => (a / 2 + 128 * c, a % 2)
  | .sla => (2 * a % 256, a / 128)
  | .sra => (a / 2 + 128 * (a / 128), a % 2)
  | .swap => (16 * (a % 16) + a / 16, 0)
  | .srl => (a / 2, a % 2)

/-- The number two packed decimal digits stand for. -/
def bcdValue (a : Byte) : Nat := 10 * (a.toNat / 16) + a.toNat % 16

/-- Both nibbles are decimal digits. -/
def IsBcd (a : Byte) : Prop := a.toNat / 16 ≤ 9 ∧ a.toNat % 16 ≤ 9

/-! ## What an instruction writes, and that it writes nothing else -/

/-- At most the register file differs, and every read of memory returns what it returned. -/
def OnlyRegisters (s t : State) : Prop :=
  t = { s with regs := t.regs } ∧ ∀ a : Word, memRead t a = memRead s a

/-- `i` completes: it writes `v` to the 8-bit register `r` and `f` to F, moves PC on by `len`, and writes nothing else. -/
def WritesReg8 (i : Instr) (s : State) (r : Reg8) (v f : Byte) (len : Nat) : Prop :=
  ∃ t, exec i s = .next t ∧ (∀ q, t.getR8 q = if q = r then v else s.getR8 q) ∧ t.regs.f = f ∧
    t.regs.sp = s.regs.sp ∧ t.regs.pc = s.regs.pc + BitVec.ofNat 16 len ∧ OnlyRegisters s t

/-- `i` completes: it writes `w` to the pair or SP `r` and `f` to F, moves PC on by `len`, and writes nothing else. -/
def WritesReg16 (i : Instr) (s : State) (r : Reg16) (w : Word) (f : Byte) (len : Nat) : Prop :=
  ∃ t, exec i s = .next t ∧ (∀ q, t.getR16 q = if q = r then w else s.getR16 q) ∧ t.regs.a = s.regs.a ∧
    t.regs.f = f ∧ t.regs.pc = s.regs.pc + BitVec.ofNat 16 len ∧ OnlyRegisters s t

/-- `i` completes: the register file becomes `r` and nothing else is written. -/
def WritesRegs (i : Instr) (s : State) (r : Regs) : Prop :=
  ∃ t, exec i s = .next t ∧ t.regs = r ∧ OnlyRegisters s t

/-- From `s` to `t` one gated write of `v` at `a` happened, apart from the register file. A denied write changes nothing.
A write to a storage cell is read back at every address that names the cell, and every other address reads as before. A
write to anything else but the DMA trigger leaves every byte of storage. (What a write to a register of the I/O block or
below 0x8000 does is `memWrite`'s, stated by IoRegisterWrites, OamDmaCopiesAPage and BankCommands.) -/
def StoresByteAt (s t : State) (a : Word) (v : Byte) : Prop :=
  t = { memWrite s a v with regs := t.regs } ∧
  (denied s a = true → OnlyRegisters s t) ∧
  (∀ k, denied s a = false → target s a = .cell k →
    ∀ b, memRead t b = if denied s b = false ∧ target s b = .cell k then v else memRead s b) ∧
  (∀ k, target s a ≠ .cell k → target s a ≠ .reg .dma → t.mem.read k = s.mem.read k)

/-- The same of two gated writes, `v1` at `a1`, then `v2` at `a2`. -/
def StoresTwoBytesAt (s t : State) (a1 : Word) (v1 : Byte) (a2 : Word) (v2 : Byte) : Prop :=
  t = { memWrite (memWrite s a1 v1) a2 v2 with regs := t.regs } ∧
  (denied s a1 = true → denied s a2 = true → OnlyRegisters s t) ∧
  (∀ k1 k2, denied s a1 = false → target s a1 = .cell k1 → denied s a2 = false → target s a2 = .cell k2 →
    ∀ b, memRead t b = if denied s b = false ∧ target s b = .cell k2 then v2
      else if denied s b = false ∧ target s b = .cell k1 then v1 else memRead s b) ∧
  (∀ k, target s a1 ≠ .cell k → target s a1 ≠ .reg .dma → target (memWrite s a1 v1) a2 ≠ .cell k →
    target (memWrite s a1 v1) a2 ≠ .reg .dma → t.mem.read k = s.mem.read k)

/-- `i` completes: it stores `v` at `a`, writes `w` to HL and `f` to F, moves PC on by `len`, and writes nothing else. -/
def StoresByte (i : Instr) (s : State) (a : Word) (v : Byte) (w : Word) (f : Byte) (len : Nat) : Prop :=
  ∃ t, exec i s = .next t ∧ StoresByteAt s t a v ∧
    t.regs = { s.regs with h := hiByte w, l := loByte w, f := f, pc := s.regs.pc + BitVec.ofNat 16 len }

/-- `i` completes: it pushes `w` (the high byte at SP - 1, then the low byte at SP - 2), leaves SP two lower and PC at
`pc`, and writes nothing else. -/
def Pushes (i : Instr) (s : State) (w pc : Word) : Prop :=
  ∃ t, exec i s = .next t ∧ StoresTwoBytesAt s t (s.regs.sp - 1) (hiByte w) (s.regs.sp - 2) (loByte w) ∧
    t.regs = { s.regs with sp := s.regs.sp - 2, pc := pc }

/-- The eight accumulator operations with one source: `form op` is the instruction of operation `op`, `v` the byte its
source holds, `len` its length (42_alu8.md R194). -/
def AluSource (s : State) (form : AluOp → Instr) (v : Byte) (len : Nat) : Prop :=
  (∃ r : Reg8, form = (fun op => mkAlu op (.reg r)) ∧ v = s.getR8 r ∧ len = 1) ∨
  (form = (fun op => mkAlu op .atHl) ∧ v = memRead s s.hl ∧ len = 1) ∨
  (form = (fun op => mkAluImm op v) ∧ len = 2)

end Sys2Proof
end

