-- ==== Sys2Proof/Certificates/Slice0/Obligations.lean ====
section
/-! DEFINITION. The statements for the provers. Each says which rules of spec/ it formalises; where a clause rests on the
spec's own decision (D<n>, C<n>, a passage from general knowledge) or on a log entry of this model, it says so. -/

open Sys2Proof Sys2Proof.Machine

/-! ## Encoding -/

/-- Decoding gives back every well-formed instruction, with every operand value, and leaves the bytes after it
(30_encoding.md R100, R103 to R108; the opcode numbering is D40's, the byte order D1's). -/
def Obligations.DecodeInvertsEncode : Prop :=
  ∀ i : Instr, i.wellFormed = true → ∀ rest : List Byte, decode (encode i ++ rest) = .ok (i, rest)

/-- Whatever bytes the decoder accepts are the encoding of the instruction it answers, which is well formed: no bit of
an instruction's bytes is dropped, and no two encodings share an instruction (30_encoding.md R100, R111; D40). -/
def Obligations.EncodeInvertsDecode : Prop :=
  ∀ (bs : List Byte) (i : Instr) (rest : List Byte), decode bs = .ok (i, rest) →
    i.wellFormed = true ∧ encode i ++ rest = bs

/-- Words written out from the encoding lines of 40_load8.md to 46_system.md, one or more of each family (D40). -/
def Obligations.SpecWordsDecode : Prop :=
  decode [0b00000000] = .ok (.nop, []) ∧
  decode [0b01111000] = .ok (.ldAB, []) ∧
  decode [0b00111110, 0b01000010] = .ok (.ldAD8 0x42, []) ∧
  decode [0b00100010] = .ok (.ldAtHlIncA, []) ∧
  decode [0b11100000, 0x80] = .ok (.ldhAtA8A 0x80, []) ∧
  decode [0b11101010, 0x00, 0xC0] = .ok (.ldAtA16A 0xC000, []) ∧
  decode [0b00100001, 0x34, 0x12] = .ok (.ldHlD16 0x1234, []) ∧
  decode [0b00001000, 0x00, 0xC1] = .ok (.ldAtA16Sp 0xC100, []) ∧
  decode [0b11110101] = .ok (.pushAf, []) ∧
  decode [0b11000001] = .ok (.popBc, []) ∧
  decode [0b10001110] = .ok (.adcAAtHl, []) ∧
  decode [0b11111110, 0x40] = .ok (.cpD8 0x40, []) ∧
  decode [0b00110100] = .ok (.incAtHl, []) ∧
  decode [0b00100111] = .ok (.daa, []) ∧
  decode [0b00001001] = .ok (.addHlBc, []) ∧
  decode [0b11101000, 0xFE] = .ok (.addSpE8 0xFE, []) ∧
  decode [0b00010111] = .ok (.rla, []) ∧
  decode [0xCB, 0b00110111] = .ok (.swapA, []) ∧
  decode [0xCB, 0b01111100] = .ok (.bit7H, []) ∧
  decode [0xCB, 0b11011110] = .ok (.set3AtHl, []) ∧
  decode [0b00100000, 0xFB] = .ok (.jrNzE8 0xFB, []) ∧
  decode [0b11001010, 0x00, 0x80] = .ok (.jpZA16 0x8000, []) ∧
  decode [0b11011100, 0x00, 0x02] = .ok (.callCA16 0x0200, []) ∧
  decode [0b11011001] = .ok (.reti, []) ∧
  decode [0b11101111] = .ok (.rst28, []) ∧
  decode [0b01110110] = .ok (.halt, []) ∧
  decode [0b00010000, 0x00] = .ok (.stop 0x00, []) ∧
  decode [0b11010011] = .ok (.undefined 0xD3, [])

/-- The two opcode pages of 30_encoding.md R103 to R107 and R109, row by row: where each regular family stands, its
operands read through the tables of 00_scope.md R10, the byte of every irregular row, and the eleven undefined bytes (the
numbering is D40's, log entry 17). -/
def Obligations.OpcodeFormulas : Prop :=
  (∀ (y z : Octal) (b1 b2 : Byte),
    decodeBytes (BitVec.ofNat 8 (0x40 + 8 * y.toNat + z.toNat)) b1 b2 =
      (if y = .o6 ∧ z = .o6 then .halt else mkLd (r8Table y) (r8Table z)) ∧
    decodeBytes (BitVec.ofNat 8 (0x80 + 8 * y.toNat + z.toNat)) b1 b2 = mkAlu (aluTable y) (r8Table z) ∧
    decodeBytes 0xCB (BitVec.ofNat 8 (8 * y.toNat + z.toNat)) b2 = mkRot (rotTable y) (r8Table z) ∧
    decodeBytes 0xCB (BitVec.ofNat 8 (0x40 + 8 * y.toNat + z.toNat)) b2 = mkBit y (r8Table z) ∧
    decodeBytes 0xCB (BitVec.ofNat 8 (0x80 + 8 * y.toNat + z.toNat)) b2 = mkRes y (r8Table z) ∧
    decodeBytes 0xCB (BitVec.ofNat 8 (0xC0 + 8 * y.toNat + z.toNat)) b2 = mkSet y (r8Table z)) ∧
  (∀ (y : Octal) (b1 b2 : Byte),
    decodeBytes (BitVec.ofNat 8 (8 * y.toNat + 4)) b1 b2 = mkInc8 (r8Table y) ∧
    decodeBytes (BitVec.ofNat 8 (8 * y.toNat + 5)) b1 b2 = mkDec8 (r8Table y) ∧
    decodeBytes (BitVec.ofNat 8 (8 * y.toNat + 6)) b1 b2 = mkLdImm (r8Table y) b1 ∧
    decodeBytes (BitVec.ofNat 8 (0xC0 + 8 * y.toNat + 6)) b1 b2 = mkAluImm (aluTable y) b1 ∧
    decodeBytes (BitVec.ofNat 8 (0xC0 + 8 * y.toNat + 7)) b1 b2 = mkRst y) ∧
  (∀ (p : Nat) (r : Reg16), (p, r) ∈ [(0, Reg16.bc), (1, .de), (2, .hl), (3, .sp)] → ∀ b1 b2 : Byte,
    decodeBytes (BitVec.ofNat 8 (0x10 * p + 0x01)) b1 b2 = mkLd16 r (b2 ++ b1) ∧
    decodeBytes (BitVec.ofNat 8 (0x10 * p + 0x09)) b1 b2 = mkAddHl r ∧
    decodeBytes (BitVec.ofNat 8 (0x10 * p + 0x03)) b1 b2 = mkInc16 r ∧
    decodeBytes (BitVec.ofNat 8 (0x10 * p + 0x0B)) b1 b2 = mkDec16 r) ∧
  (∀ (p : Nat) (r : Stk16), (p, r) ∈ [(0, Stk16.bc), (1, .de), (2, .hl), (3, .af)] → ∀ b1 b2 : Byte,
    decodeBytes (BitVec.ofNat 8 (0xC1 + 0x10 * p)) b1 b2 = mkPop r ∧
    decodeBytes (BitVec.ofNat 8 (0xC5 + 0x10 * p)) b1 b2 = mkPush r) ∧
  (∀ (y : Nat) (cc : Cond), (y, cc) ∈ [(0, Cond.nz), (1, .z), (2, .nc), (3, .c)] → ∀ b1 b2 : Byte,
    decodeBytes (BitVec.ofNat 8 (0x20 + 8 * y)) b1 b2 = mkJr cc b1 ∧
    decodeBytes (BitVec.ofNat 8 (0xC0 + 8 * y)) b1 b2 = mkRet cc ∧
    decodeBytes (BitVec.ofNat 8 (0xC2 + 8 * y)) b1 b2 = mkJp cc (b2 ++ b1) ∧
    decodeBytes (BitVec.ofNat 8 (0xC4 + 8 * y)) b1 b2 = mkCall cc (b2 ++ b1)) ∧
  (∀ b1 b2 : Byte,
    (decodeBytes 0x00 b1 b2 = .nop ∧ decodeBytes 0x10 b1 b2 = .stop b1 ∧ decodeBytes 0x76 b1 b2 = .halt ∧
      decodeBytes 0xF3 b1 b2 = .di ∧ decodeBytes 0xFB b1 b2 = .ei) ∧
    (decodeBytes 0x07 b1 b2 = .rlca ∧ decodeBytes 0x0F b1 b2 = .rrca ∧ decodeBytes 0x17 b1 b2 = .rla ∧
      decodeBytes 0x1F b1 b2 = .rra ∧ decodeBytes 0x27 b1 b2 = .daa ∧ decodeBytes 0x2F b1 b2 = .cpl ∧
      decodeBytes 0x37 b1 b2 = .scf ∧ decodeBytes 0x3F b1 b2 = .ccf) ∧
    (decodeBytes 0x02 b1 b2 = .ldAtBcA ∧ decodeBytes 0x12 b1 b2 = .ldAtDeA ∧ decodeBytes 0x22 b1 b2 = .ldAtHlIncA ∧
      decodeBytes 0x32 b1 b2 = .ldAtHlDecA ∧ decodeBytes 0x0A b1 b2 = .ldAAtBc ∧ decodeBytes 0x1A b1 b2 = .ldAAtDe ∧
      decodeBytes 0x2A b1 b2 = .ldAAtHlInc ∧ decodeBytes 0x3A b1 b2 = .ldAAtHlDec) ∧
    (decodeBytes 0xE0 b1 b2 = .ldhAtA8A b1 ∧ decodeBytes 0xF0 b1 b2 = .ldhAAtA8 b1 ∧ decodeBytes 0xE2 b1 b2 = .ldAtCA ∧
      decodeBytes 0xF2 b1 b2 = .ldAAtC ∧ decodeBytes 0xEA b1 b2 = .ldAtA16A (b2 ++ b1) ∧
      decodeBytes 0xFA b1 b2 = .ldAAtA16 (b2 ++ b1)) ∧
    (decodeBytes 0x08 b1 b2 = .ldAtA16Sp (b2 ++ b1) ∧ decodeBytes 0xF9 b1 b2 = .ldSpHl ∧
      decodeBytes 0xF8 b1 b2 = .ldhlSpE8 b1 ∧ decodeBytes 0xE8 b1 b2 = .addSpE8 b1) ∧
    (decodeBytes 0x18 b1 b2 = .jrE8 b1 ∧ decodeBytes 0xC3 b1 b2 = .jpA16 (b2 ++ b1) ∧ decodeBytes 0xE9 b1 b2 = .jpHl ∧
      decodeBytes 0xCD b1 b2 = .callA16 (b2 ++ b1) ∧ decodeBytes 0xC9 b1 b2 = .ret ∧ decodeBytes 0xD9 b1 b2 = .reti) ∧
    (∀ op ∈ ([0xD3, 0xDB, 0xDD, 0xE3, 0xE4, 0xEB, 0xEC, 0xED, 0xF4, 0xFC, 0xFD] : List Byte),
      decodeBytes op b1 b2 = .undefined op))

/-- The length of an instruction is a function of its first byte alone (30_encoding.md R112, derived there from R103 to
R107; an undefined opcode is its one byte, log entry 14). -/
def Obligations.LengthFromFirstByte : Prop :=
  ∀ op b1 b2 : Byte, byteLength (decodeBytes op b1 b2) =
    if op ∈ ([0x01, 0x08, 0x11, 0x21, 0x31, 0xC2, 0xC3, 0xC4, 0xCA, 0xCC, 0xCD, 0xD2, 0xD4, 0xDA, 0xDC, 0xEA,
      0xFA] : List Byte) then 3
    else if op ∈ ([0x06, 0x0E, 0x10, 0x16, 0x18, 0x1E, 0x20, 0x26, 0x28, 0x2E, 0x30, 0x36, 0x38, 0x3E, 0xC6, 0xCE,
      0xD6, 0xDE, 0xE0, 0xE6, 0xE8, 0xEE, 0xF0, 0xF6, 0xF8, 0xFE, 0xCB] : List Byte) then 2
    else 1

/-! ## The step -/

/-- Where the three bytes at PC decode to `i`, the step of a running core is `exec i` (which always answers a next state,
EveryStepAnswers), then the closing work in the order
of 60_exceptions.md R331 (its order is D28's): the lockout countdown, the timer, the environment, one interrupt scan. A
waiting EI settles before it (log entry 7); an instruction that recorded a fatal fault ends the step at once (R301, D23).
A halted core executes nothing and lets HALT_IDLE_CYCLES elapse (R312, D24). -/
def Obligations.StepRunsDecodedInstruction : Prop :=
  (∀ (s : State) (i : Instr) (rest : List Byte), s.fault = none → s.halted = false →
    decode [memRead s s.regs.pc, memRead s (s.regs.pc + 1), memRead s (s.regs.pc + 2)] = .ok (i, rest) →
    (∀ t, exec i s = .next t →
      let c := cyclesOf i s
      let t1 := if s.eiPending && t.eiPending then { t with ime := true, eiPending := false } else t
      let t2 := { t1 with dmaRemaining := t1.dmaRemaining - min c t1.dmaRemaining }
      let t3 := environmentStep (stepTimer c t2)
      let t4 := if t3.halted then serviceHaltInterrupts t3 else serviceInterrupts t3
      step s = .next (if t.fault.isSome then t else t4))) ∧
  (∀ s : State, s.fault = none → s.halted = true →
    let c := s.params.haltIdleCycles
    let t2 := { s with dmaRemaining := s.dmaRemaining - min c s.dmaRemaining }
    let t3 := environmentStep (stepTimer c t2)
    step s = .next (if t3.halted then serviceHaltInterrupts t3 else serviceInterrupts t3))

/-- The cycles of an instruction (30_encoding.md R116, R117; the numbers and the parameter CYCLES are D29's and C12's, log
entries 6, 18). With no row of CYCLES replaced, every row of R116's table costs what the table says, and a conditional
transfer its penalty more where the condition holds. With rows replaced, an instruction whose row is not among them costs
as before, and one whose row is costs the base of its first replaced row, and the row's penalty more where it is a
conditional transfer and the condition holds. An instruction's row is its opcode, or 256 plus the byte after the prefix
(R121; the opcodes are D40's, log entry 17). An undefined opcode has no cost: its step is stopped by the fault
(FatalFaultChangesNothingElse). -/
def Obligations.CycleCosts : Prop :=
  (∀ op b1 b2 : Byte, op ≠ 0xCB → rowOf (decodeBytes op b1 b2) = op.toNat) ∧
  (∀ op2 b2 : Byte, rowOf (decodeBytes 0xCB op2 b2) = 256 + op2.toNat) ∧
  (∀ s : State, s.params.cycles = [] →
    (∀ i ∈ [Instr.nop, .halt, .di, .ei, .rlca, .rrca, .rla, .rra, .daa, .cpl, .scf, .ccf, .jpHl], cyclesOf i s = 4) ∧
    (∀ i ∈ [Instr.ldAtBcA, .ldAtDeA, .ldAAtBc, .ldAAtDe, .ldAtHlIncA, .ldAtHlDecA, .ldAAtHlInc, .ldAAtHlDec, .ldAtCA,
      .ldAAtC, .ldSpHl], cyclesOf i s = 8) ∧
    (∀ i ∈ [Instr.ret, .reti], cyclesOf i s = 16) ∧
    (∀ b : Byte, cyclesOf (.stop b) s = 4 ∧ cyclesOf (.ldhAtA8A b) s = 12 ∧ cyclesOf (.ldhAAtA8 b) s = 12 ∧
      cyclesOf (.ldhlSpE8 b) s = 12 ∧ cyclesOf (.addSpE8 b) s = 16 ∧ cyclesOf (.jrE8 b) s = 12) ∧
    (∀ w : Word, cyclesOf (.ldAtA16A w) s = 16 ∧ cyclesOf (.ldAAtA16 w) s = 16 ∧ cyclesOf (.ldAtA16Sp w) s = 20 ∧
      cyclesOf (.jpA16 w) s = 16 ∧ cyclesOf (.callA16 w) s = 24) ∧
    (∀ r q : Reg8, cyclesOf (mkLd (.reg r) (.reg q)) s = 4 ∧ cyclesOf (mkLd (.reg r) .atHl) s = 8 ∧
      cyclesOf (mkLd .atHl (.reg q)) s = 8) ∧
    (∀ (x : Opd8) (d8 : Byte), cyclesOf (mkLdImm x d8) s = (if x = .atHl then 12 else 8) ∧
      cyclesOf (mkInc8 x) s = (if x = .atHl then 12 else 4) ∧ cyclesOf (mkDec8 x) s = (if x = .atHl then 12 else 4)) ∧
    (∀ (r : Reg16) (d16 : Word), cyclesOf (mkLd16 r d16) s = 12 ∧ cyclesOf (mkInc16 r) s = 8 ∧
      cyclesOf (mkDec16 r) s = 8 ∧ cyclesOf (mkAddHl r) s = 8) ∧
    (∀ r : Stk16, cyclesOf (mkPush r) s = 16 ∧ cyclesOf (mkPop r) s = 12) ∧
    (∀ (op : AluOp) (x : Opd8) (d8 : Byte), cyclesOf (mkAlu op x) s = (if x = .atHl then 8 else 4) ∧
      cyclesOf (mkAluImm op d8) s = 8) ∧
    (∀ (op : RotOp) (x : Opd8), cyclesOf (mkRot op x) s = if x = .atHl then 16 else 8) ∧
    (∀ (b : Octal) (x : Opd8), cyclesOf (mkBit b x) s = (if x = .atHl then 16 else 8) ∧
      cyclesOf (mkRes b x) s = (if x = .atHl then 16 else 8) ∧
      cyclesOf (mkSet b x) s = (if x = .atHl then 16 else 8)) ∧
    (∀ y : Octal, cyclesOf (mkRst y) s = 16) ∧
    (∀ (cc : Cond) (e8 : Byte), cyclesOf (mkJr cc e8) s = if condHolds cc s.regs.f then 8 + 4 else 8) ∧
    (∀ (cc : Cond) (a16 : Word), cyclesOf (mkJp cc a16) s = if condHolds cc s.regs.f then 12 + 4 else 12) ∧
    (∀ (cc : Cond) (a16 : Word), cyclesOf (mkCall cc a16) s = if condHolds cc s.regs.f then 12 + 12 else 12) ∧
    (∀ cc : Cond, cyclesOf (mkRet cc) s = if condHolds cc s.regs.f then 8 + 12 else 8)) ∧
  (∀ (s : State) (i : Instr), (∀ q ∈ s.params.cycles, q.row ≠ rowOf i) →
    cyclesOf i s = cyclesOf i { s with params := { s.params with cycles := [] } }) ∧
  (∀ (s : State) (i : Instr) (before : List CycleRow) (r : CycleRow) (after : List CycleRow),
    s.params.cycles = before ++ r :: after → (∀ q ∈ before, q.row ≠ rowOf i) → r.row = rowOf i →
    (∀ (cc : Cond) (e8 : Byte) (a16 : Word), i ∈ [mkJr cc e8, mkJp cc a16, mkCall cc a16, mkRet cc] →
      cyclesOf i s = if condHolds cc s.regs.f then r.base + r.penalty else r.base) ∧
    ((∀ (cc : Cond) (e8 : Byte) (a16 : Word), i ∉ [mkJr cc e8, mkJp cc a16, mkCall cc a16, mkRet cc]) →
      cyclesOf i s = r.base))

/-- No instruction is refused and none is without an answer: every instruction completes in every state, and every state
that has recorded no fatal fault has a next state (20_memory.md R91, 60_exceptions.md R314; a fatal fault is recorded in
the next state, log entry 10). A state that has recorded one takes no step (10_state.md R47). -/
def Obligations.EveryStepAnswers : Prop :=
  (∀ (i : Instr) (s : State), ∃ t, exec i s = .next t) ∧
  (∀ s : State, s.fault = none → ∃ t, step s = .next t) ∧
  (∀ (s : State) (k : Fault), s.fault = some k → step s = .fault k)

/-- 60_exceptions.md R300: the core raises exactly two kinds of fault, a decode error on an undefined opcode at PC and
the executor error of STOP, and raises each of them whenever that byte stands at PC. Nothing else faults. Which bytes are
undefined and that 0x10 is STOP, which faults, are the spec's decisions D40 and D22 (30_encoding.md R109, 46_system.md
R272, R276; log entry 17); that the step which faults answers a next state with the fault recorded is the model's choice
(log entry 10). -/
def Obligations.OnlyDecodeErrorsAndStopFault : Prop :=
  ∀ s : State, s.fault = none →
    (∀ (t : State) (k : Fault), step s = .next t → t.fault = some k →
      s.halted = false ∧
      ((memRead s s.regs.pc ∈ undefinedOpcodes ∧ k = .decodeError (memRead s s.regs.pc)) ∨
       (memRead s s.regs.pc = 0x10 ∧ k = .executorError "STOP")) ∧ t.regs.pc = s.regs.pc) ∧
    (s.halted = false → memRead s s.regs.pc ∈ undefinedOpcodes →
      ∃ t, step s = .next t ∧ t.fault = some (.decodeError (memRead s s.regs.pc))) ∧
    (s.halted = false → memRead s s.regs.pc = 0x10 →
      ∃ t, step s = .next t ∧ t.fault = some (.executorError "STOP"))

/-- A step that ends in a fatal fault changes nothing but `fault`: PC keeps the opcode's address, no cycles elapse,
nothing is pushed, no interrupt is taken; and no step follows (60_exceptions.md R301, R309; the never-final reading is
D23's). -/
def Obligations.FatalFaultChangesNothingElse : Prop :=
  ∀ (s t : State) (k : Fault), s.fault = none → step s = .next t → t.fault = some k →
    t = { s with fault := some k } ∧ step t = .fault k

/-- A core halted with no source enabled stays so for any number of steps, whatever the environment does, with its
registers and all storage outside the I/O block unchanged (70_reset_and_hazards.md R367, D31; 60_exceptions.md R310,
R312, R330). -/
def Obligations.TerminalIdleLastsForEver : Prop :=
  ∀ (n : Nat) (s : State), TerminalIdle s →
    ∃ t, core.run n s = .next t ∧ TerminalIdle t ∧ t.regs = s.regs ∧ t.ime = s.ime ∧
      ∀ k, k < 0xFF00 ∨ 0xFF7F < k → t.mem.read k = s.mem.read k

/-! ## Reset and invariants -/

/-- The values of 10_state.md R46, which are the spec's own choice (D3); the first opcode is `BOOT_ROM[0]`. -/
def Obligations.ResetValues : Prop :=
  let s := State.reset
  s.regs.pc = 0x0000 ∧ s.ime = false ∧ s.halted = false ∧ s.fault = none ∧ s.hasBooted = false ∧
  s.mbc = { ramEnable := false, bankLo := 0, bankHi := 0, mode := false } ∧
  s.dmaRemaining = 0 ∧ s.divAcc = 0 ∧ s.timaAcc = 0 ∧
  s.io.div = 0 ∧ s.io.tima = 0 ∧ s.io.tma = 0 ∧ s.io.tac = 0 ∧ s.io.ifReg = 0 ∧ s.io.ie = 0 ∧
  s.io.lcdc = 0 ∧ s.io.stat = 0 ∧ s.io.p1Select = 0b11 ∧ s.regs.f.toNat % 16 = 0 ∧
  target s s.regs.pc = .rom bootRomBase ∧ denied s s.regs.pc = false

/-- The invariant holds at reset. -/
def Obligations.ResetMeetsInvariant : Prop := Inv State.reset

/-- Every step keeps the invariant: storage in canonical form (log entry 1), the low nibble of F zero (10_state.md R24),
`dma_remaining` at most 648 (R33), the accumulators in range (R34), a waiting EI only under EI_DELAY (log entry 7). -/
def Obligations.StepKeepsInvariant : Prop :=
  ∀ s t : State, Inv s → step s = .next t → Inv t

/-- 10_state.md R24: the low nibble of F is zero at reset and after every step from a state where it is zero; an
instruction that writes F makes it zero whatever F was, POP AF among them, whatever it pops. That POP AF takes F from the
byte at SP is 41_load16_stack.md R160 and R167, whose stack layout is the spec's decision D1 (log entry 21). -/
def Obligations.FlagLowNibbleStaysZero : Prop :=
  State.reset.regs.f.toNat % 16 = 0 ∧
  (∀ s t : State, s.regs.f.toNat % 16 = 0 → step s = .next t → t.regs.f.toNat % 16 = 0) ∧
  (∀ (i : Instr) (s t : State), exec i s = .next t → t.regs.f = s.regs.f ∨ t.regs.f.toNat % 16 = 0) ∧
  (∀ s : State, ∃ t, exec .popAf s = .next t ∧ t.regs.f = memRead s s.regs.sp &&& 0xF0)

/-- No step changes a byte of BOOT_ROM or CART_ROM or a parameter (10_state.md R43, 20_memory.md R59, 00_scope.md R7),
and the boot latch never returns to false (10_state.md R31). The images are cells of storage in this model (log
entry 1). -/
def Obligations.RomParametersAndBootLatchAreStable : Prop :=
  ∀ s t : State, step s = .next t →
    (∀ k, bootRomBase ≤ k → t.mem.read k = s.mem.read k) ∧ t.params = s.params ∧
    (s.hasBooted = true → t.hasBooted = true)

/-- IME becomes true in a step only by EI or RETI, or because an EI was waiting (10_state.md R29, 46_system.md R275,
45_control_flow.md R259). That the bytes of EI and RETI are 0xFB and 0xD9 is D40's numbering (log entry 17); the waiting
EI is the parameter EI_DELAY's, D5 (log entry 7). -/
def Obligations.ImeIsSetOnlyByEiAndReti : Prop :=
  ∀ s t : State, s.fault = none → s.ime = false → step s = .next t → t.ime = true →
    s.halted = false ∧ (memRead s s.regs.pc = 0xFB ∨ memRead s s.regs.pc = 0xD9 ∨ s.eiPending = true)

/-! ## Memory -/

/-- 20_memory.md R51 and R52, with R70 and R72: the DMA lockout is checked first, then the LCD mode, then the address is
dispatched; a denied read returns 0xFF, a denied write changes no state at all. That a read denied by the lockout returns
0xFF is the spec's decision D14 (log entry 22); where the LCD's power and mode are read (`lcdOn`, `lcdMode`) is R71, its
decision D20 (log entry 20). -/
def Obligations.GatedAccessChecksInOrder : Prop :=
  ∀ (s : State) (a : Word) (v : Byte),
    (memRead s a =
      if s.dmaRemaining > 0 ∧ ¬ (0xFF80 ≤ a.toNat ∧ a.toNat ≤ 0xFFFE) then 0xFF
      else if lcdOn s = true ∧ (0x8000 ≤ a.toNat ∧ a.toNat ≤ 0x9FFF) ∧ lcdMode s = 3 then 0xFF
      else if lcdOn s = true ∧ (0xFE00 ≤ a.toNat ∧ a.toNat ≤ 0xFE9F) ∧ (lcdMode s = 2 ∨ lcdMode s = 3) then 0xFF
      else rawRead s a) ∧
    (memWrite s a v =
      if s.dmaRemaining > 0 ∧ ¬ (0xFF80 ≤ a.toNat ∧ a.toNat ≤ 0xFFFE) then s
      else if lcdOn s = true ∧ (0x8000 ≤ a.toNat ∧ a.toNat ≤ 0x9FFF) ∧ lcdMode s = 3 then s
      else if lcdOn s = true ∧ (0xFE00 ≤ a.toNat ∧ a.toNat ≤ 0xFE9F) ∧ (lcdMode s = 2 ∨ lcdMode s = 3) then s
      else rawWrite s a v)

/-- Where the LCD facts live (20_memory.md R71, D20), and what the lockout does to a program (R72; the value 0xFF of a
denied read is D14's): outside high RAM nothing is read or written, a fetch decodes as RST 38H, and high RAM is as
always. -/
def Obligations.LockoutDeniesAllButHighRam : Prop :=
  (∀ s : State, lcdOn s = decide (s.io.lcdc.toNat ≥ 128) ∧ lcdMode s = s.io.stat.toNat % 4) ∧
  (∀ (s : State) (a : Word), s.dmaRemaining > 0 →
    ((a.toNat < 0xFF80 ∨ a.toNat = 0xFFFF) →
      memRead s a = 0xFF ∧ (∀ v, memWrite s a v = s) ∧ decodeAt s a = .rst38) ∧
    (0xFF80 ≤ a.toNat ∧ a.toNat ≤ 0xFFFE →
      memRead s a = s.mem.read a.toNat ∧
      ∀ v, memWrite s a v = { s with mem := s.mem.write a.toNat v }))

/-- 20_memory.md R56 and R57: while `has_booted` is false reads of 0x0000 to 0x00FF return BOOT_ROM, afterwards, and from
0x0100 to 0x3FFF always, cartridge bank 0 whatever the bank latches hold; the overlay affects reads only, fetches
and DMA source reads among them (R74, R75; that the copy reads raw is D16's, log entry 22), and a write to the register at
0xFF50 ends it (R80; the address and that any value does it are D21's, log entry 20). That the two images are cells of
storage is the model's choice (log entry 1). -/
def Obligations.BootOverlayAndFixedBank : Prop :=
  (∀ (s : State) (a : Word), a.toNat < 0x100 →
    rawRead s a = (if s.hasBooted = false then s.mem.read (bootRomBase + a.toNat)
      else s.mem.read (cartRomBase + a.toNat)) ∧
    (∀ (v : Byte) (b : Bool), rawWrite { s with hasBooted := b } a v = { rawWrite s a v with hasBooted := b }) ∧
    (s.dmaRemaining = 0 → memRead s a = rawRead s a)) ∧
  (∀ s : State, s.dmaRemaining = 0 → (memWrite s 0xFF50 0x01).hasBooted = true ∧
    ∀ i < 160, (memWrite s 0xFF46 0x00).mem.read (0xFE00 + i) = rawRead s (BitVec.ofNat 16 i)) ∧
  (∀ (s : State) (a : Word), 0x100 ≤ a.toNat → a.toNat < 0x4000 →
    rawRead s a = s.mem.read (cartRomBase + a.toNat))

/-- The switchable window reads the bank of the two latches, with the remap of a zero low part, so never a bank whose
number is a multiple of 32 (20_memory.md R58, C4; offsets beyond a physical image are D12's). -/
def Obligations.SwitchableBankIsNeverAMultipleOf32 : Prop :=
  ∀ (s : State) (a : Word), 0x4000 ≤ a.toNat → a.toNat < 0x8000 →
    ∃ bank, bank = 32 * s.mbc.bankHi.toNat + (if s.mbc.bankLo.toNat = 0 then 1 else s.mbc.bankLo.toNat) ∧
      rawRead s a = s.mem.read (cartRomBase + 0x4000 * bank + (a.toNat - 0x4000)) ∧
      1 ≤ bank ∧ bank ≤ 127 ∧ bank % 32 ≠ 0

/-- The four command ranges (20_memory.md R59; ranges, enable value and mode latch are D10's and D11's): outside the
lockout a write below 0x8000 sets one latch and nothing else. -/
def Obligations.BankCommands : Prop :=
  ∀ (s : State) (a : Word) (v : Byte), s.dmaRemaining = 0 →
    (a.toNat < 0x2000 →
      memWrite s a v = { s with mbc := { s.mbc with ramEnable := decide (v.toNat % 16 = 0xA) } }) ∧
    (0x2000 ≤ a.toNat → a.toNat < 0x4000 →
      memWrite s a v = { s with mbc := { s.mbc with bankLo := BitVec.ofNat 5 v.toNat } }) ∧
    (0x4000 ≤ a.toNat → a.toNat < 0x6000 →
      memWrite s a v = { s with mbc := { s.mbc with bankHi := BitVec.ofNat 2 v.toNat } }) ∧
    (0x6000 ≤ a.toNat → a.toNat < 0x8000 →
      memWrite s a v = { s with mbc := { s.mbc with mode := decide (v.toNat % 2 = 1) } })

/-- 20_memory.md R60: a write to ROM stores nothing, in ROM or elsewhere; a read after it returns the ROM byte of the
possibly newly selected bank, which is a function of the bank latches and of the storage before the write. That no latch,
the mode latch among them, changes a read below 0x4000 is R57 with the spec's decision D11 (log entry 19); the bank read
from 0x4000 to 0x7FFF is R58, and that the ROM images are cells of storage is the model's choice (log entry 1). -/
def Obligations.RomIsOnlyACommandSink : Prop :=
  ∀ (s : State) (a : Word) (v : Byte), a.toNat < 0x8000 →
    memWrite s a v = { s with mbc := (memWrite s a v).mbc } ∧
    rawRead (memWrite s a v) a = rawRead { s with mbc := (memWrite s a v).mbc } a ∧
    (∀ b : Word, b.toNat < 0x4000 → rawRead (memWrite s a v) b = rawRead s b) ∧
    (∀ b : Word, 0x4000 ≤ b.toNat → b.toNat < 0x8000 →
      rawRead (memWrite s a v) b =
        s.mem.read (cartRomBase + 0x4000 * romBank (memWrite s a v).mbc + (b.toNat - 0x4000)))

/-- 20_memory.md R64, R65, R67 and R83: video RAM, work RAM, OAM and high RAM are plain storage for raw access, byte by
byte. Outside the lockout video RAM and OAM are denied exactly in the LCD modes R70 names and work RAM never; high RAM is
never denied at all. Where the LCD's power and mode are read is R71, the spec's decision D20 (log entry 20). -/
def Obligations.PlainStorageRegions : Prop :=
  (∀ (s : State) (a : Word) (v : Byte),
    (0x8000 ≤ a.toNat ∧ a.toNat ≤ 0x9FFF) ∨ (0xC000 ≤ a.toNat ∧ a.toNat ≤ 0xDFFF) ∨
      (0xFE00 ≤ a.toNat ∧ a.toNat ≤ 0xFE9F) ∨ (0xFF80 ≤ a.toNat ∧ a.toNat ≤ 0xFFFE) →
    rawRead s a = s.mem.read a.toNat ∧
    rawWrite s a v = { s with mem := (rawWrite s a v).mem } ∧
    rawRead (rawWrite s a v) a = v ∧
    ∀ k, k ≠ a.toNat → (rawWrite s a v).mem.read k = s.mem.read k) ∧
  (∀ (s : State) (a : Word), 0x8000 ≤ a.toNat ∧ a.toNat ≤ 0x9FFF → s.dmaRemaining = 0 →
    denied s a = (lcdOn s && decide (lcdMode s = 3))) ∧
  (∀ (s : State) (a : Word), 0xFE00 ≤ a.toNat ∧ a.toNat ≤ 0xFE9F → s.dmaRemaining = 0 →
    denied s a = (lcdOn s && decide (lcdMode s = 2 ∨ lcdMode s = 3))) ∧
  (∀ (s : State) (a : Word), 0xC000 ≤ a.toNat ∧ a.toNat ≤ 0xDFFF → s.dmaRemaining = 0 → denied s a = false) ∧
  (∀ (s : State) (a : Word), 0xFF80 ≤ a.toNat ∧ a.toNat ≤ 0xFFFE → denied s a = false)

/-- 20_memory.md R66: a write to 0xC000 to 0xDDFF is read at the address plus 0x2000 and the other way round, the two
writes are the same write; work RAM from 0xDE00 on has no echo. -/
def Obligations.EchoRamIsWorkRam : Prop :=
  (∀ (s : State) (a : Word) (v : Byte), 0xC000 ≤ a.toNat ∧ a.toNat ≤ 0xDDFF →
    rawRead (rawWrite s a v) (a + 0x2000) = v ∧ rawRead (rawWrite s (a + 0x2000) v) a = v ∧
    rawWrite s (a + 0x2000) v = rawWrite s a v ∧ rawRead s (a + 0x2000) = rawRead s a) ∧
  (∀ (s : State) (a b : Word) (v : Byte), 0xDE00 ≤ a.toNat ∧ a.toNat ≤ 0xDFFF → b ≠ a →
    rawRead (rawWrite s a v) b = rawRead s b)

/-- External RAM (20_memory.md R61 to R63; window, bank number, off value and dropped writes are D9's, D11's and D13's):
with RAM enabled the selected bank is plain storage, with RAM disabled a read returns the off value and a write does
nothing. -/
def Obligations.ExternalRamIsBankedAndGated : Prop :=
  ∀ (s : State) (a : Word) (v : Byte), 0xA000 ≤ a.toNat ∧ a.toNat ≤ 0xBFFF →
    (s.mbc.ramEnable = true →
      ∃ bank, bank = (if s.mbc.mode then s.mbc.bankHi.toNat else 0) ∧
        rawRead s a = s.mem.read (extramBase + 0x2000 * bank + (a.toNat - 0xA000)) ∧
        rawWrite s a v = { s with mem := s.mem.write (extramBase + 0x2000 * bank + (a.toNat - 0xA000)) v } ∧
        rawRead (rawWrite s a v) a = v) ∧
    (s.mbc.ramEnable = false →
      rawRead s a = (if s.params.extramOff = .zeros then 0x00 else 0xFF) ∧ rawWrite s a v = s)

/-- A write that no gate denies and that names a storage cell stores the byte and changes nothing else; afterwards every
address that names the cell reads the byte (where no gate denies it), and every other address reads as before
(20_memory.md R52, R54, R55, R94). -/
def Obligations.StoredByteIsReadBackAndOthersKept : Prop :=
  ∀ (s : State) (a : Word) (v : Byte) (k : Nat), denied s a = false → target s a = .cell k →
    memWrite s a v = { s with mem := (memWrite s a v).mem } ∧
    (∀ b : Word, memRead (memWrite s a v) b =
      if denied s b = false ∧ target s b = .cell k then v else memRead s b) ∧
    (∀ j, j ≠ k → (memWrite s a v).mem.read j = s.mem.read j)

/-- The OAM DMA (20_memory.md R74, R75; the raw source reads are D16's): 160 bytes of the page arrive in OAM as raw reads
after the trigger byte is stored would give them, the window opens at 648 cycles, and no other byte changes; while a
window is open the trigger does nothing (R72). -/
def Obligations.OamDmaCopiesAPage : Prop :=
  ∀ (s : State) (v : Byte),
    (s.dmaRemaining = 0 →
      let s1 := { s with io := { s.io with dma := v } }
      let t := memWrite s 0xFF46 v
      t = { s1 with mem := t.mem, dmaRemaining := 648 } ∧
      (∀ i < 160, t.mem.read (0xFE00 + i) = rawRead s1 (BitVec.ofNat 16 (256 * v.toNat + i))) ∧
      (∀ k, k < 0xFE00 ∨ 0xFE9F < k → t.mem.read k = s.mem.read k)) ∧
    (s.dmaRemaining > 0 → memWrite s 0xFF46 v = s)

/-- What a write to the I/O block, to IE and to the unassigned range does outside the lockout (20_memory.md R68, R78 to
R82, R84, R85; addresses and the side effects of DIV and BOOT are D17's, D18's, D21's, D26's and D32's). -/
def Obligations.IoRegisterWrites : Prop :=
  ∀ (s : State) (v : Byte), s.dmaRemaining = 0 →
    memWrite s 0xFF00 v = { s with io := { s.io with p1Select := BitVec.ofNat 2 (v.toNat / 16) } } ∧
    memWrite s 0xFF04 v = { s with io := { s.io with div := 0 }, divAcc := 0 } ∧
    memWrite s 0xFF05 v = { s with io := { s.io with tima := v } } ∧
    memWrite s 0xFF06 v = { s with io := { s.io with tma := v } } ∧
    memWrite s 0xFF07 v = { s with io := { s.io with tac := v } } ∧
    memWrite s 0xFF0F v = { s with io := { s.io with ifReg := v } } ∧
    memWrite s 0xFF40 v = { s with io := { s.io with lcdc := v } } ∧
    memWrite s 0xFF41 v = { s with io := { s.io with
      stat := BitVec.ofNat 8 (8 * (v.toNat / 8) + s.io.stat.toNat % 8) } } ∧
    memWrite s 0xFF50 v = { s with io := { s.io with boot := v }, hasBooted := true } ∧
    memWrite s 0xFFFF v = { s with io := { s.io with ie := v } } ∧
    (∀ a : Word, 0xFEA0 ≤ a.toNat ∧ a.toNat ≤ 0xFEFF → memWrite s a v = s) ∧
    (∀ a : Word, 0xFF01 ≤ a.toNat ∧ a.toNat ≤ 0xFF7F →
      a.toNat ∉ [0xFF04, 0xFF05, 0xFF06, 0xFF07, 0xFF0F, 0xFF40, 0xFF41, 0xFF46, 0xFF50] →
      memWrite s a v = { s with mem := s.mem.write a.toNat v })

/-- What the I/O block, IE and the unassigned range read as outside the lockout. P1 is composed (20_memory.md R77, D32):
bits 7:6 are 1, bits 5:4 the selectors, and a low bit is 0 exactly when a button of a selected nibble is pressed. The
others return what they hold (R81, R82, R84, D18; R68, D17). -/
def Obligations.IoRegisterReads : Prop :=
  ∀ s : State, s.dmaRemaining = 0 →
    (∀ n, (memRead s 0xFF00).getLsbD n =
      match n with
      | 0 => !((!s.io.p1Select.getLsbD 1 && s.joypad.a) || (!s.io.p1Select.getLsbD 0 && s.joypad.right))
      | 1 => !((!s.io.p1Select.getLsbD 1 && s.joypad.b) || (!s.io.p1Select.getLsbD 0 && s.joypad.left))
      | 2 => !((!s.io.p1Select.getLsbD 1 && s.joypad.select) || (!s.io.p1Select.getLsbD 0 && s.joypad.up))
      | 3 => !((!s.io.p1Select.getLsbD 1 && s.joypad.start) || (!s.io.p1Select.getLsbD 0 && s.joypad.down))
      | 4 => s.io.p1Select.getLsbD 0
      | 5 => s.io.p1Select.getLsbD 1
      | 6 => true
      | 7 => true
      | _ => false) ∧
    memRead s 0xFF04 = s.io.div ∧ memRead s 0xFF05 = s.io.tima ∧ memRead s 0xFF06 = s.io.tma ∧
    memRead s 0xFF07 = s.io.tac ∧ memRead s 0xFF0F = s.io.ifReg ∧ memRead s 0xFF40 = s.io.lcdc ∧
    memRead s 0xFF41 = s.io.stat ∧ memRead s 0xFF46 = s.io.dma ∧ memRead s 0xFF50 = s.io.boot ∧
    memRead s 0xFFFF = s.io.ie ∧
    (∀ a : Word, 0xFEA0 ≤ a.toNat ∧ a.toNat ≤ 0xFEFF → memRead s a = s.params.unusableRead) ∧
    (∀ a : Word, 0xFF01 ≤ a.toNat ∧ a.toNat ≤ 0xFF7F →
      a.toNat ∉ [0xFF04, 0xFF05, 0xFF06, 0xFF07, 0xFF0F, 0xFF40, 0xFF41, 0xFF46, 0xFF50] →
      memRead s a = s.mem.read a.toNat)

/-! ## Loads -/

/-- LD r,r' ; LD r,(HL) ; LD r,d8 (40_load8.md R130, R131, R133): the register takes the value, F and everything else is
kept. -/
def Obligations.LoadsIntoRegisters : Prop :=
  ∀ (s : State) (r q : Reg8) (d8 : Byte),
    WritesReg8 (mkLd (.reg r) (.reg q)) s r (s.getR8 q) s.regs.f 1 ∧
    WritesReg8 (mkLd (.reg r) .atHl) s r (memRead s s.hl) s.regs.f 1 ∧
    WritesReg8 (mkLdImm (.reg r) d8) s r d8 s.regs.f 2

/-- LD A,(BC) ; LD A,(DE) ; LDH A,(a8) ; LD A,(C) ; LD A,(a16) ; LD A,(HL+) ; LD A,(HL-) (40_load8.md R137, R138, R141,
R142, R144, R146, R148; the high page is D38's). -/
def Obligations.LoadsIntoA : Prop :=
  ∀ (s : State) (a8 : Byte) (a16 : Word),
    WritesReg8 .ldAAtBc s .a (memRead s (s.regs.b ++ s.regs.c)) s.regs.f 1 ∧
    WritesReg8 .ldAAtDe s .a (memRead s (s.regs.d ++ s.regs.e)) s.regs.f 1 ∧
    WritesReg8 (.ldhAAtA8 a8) s .a (memRead s (BitVec.ofNat 16 (0xFF00 + a8.toNat))) s.regs.f 2 ∧
    WritesReg8 .ldAAtC s .a (memRead s (BitVec.ofNat 16 (0xFF00 + s.regs.c.toNat))) s.regs.f 1 ∧
    WritesReg8 (.ldAAtA16 a16) s .a (memRead s a16) s.regs.f 3 ∧
    WritesRegs .ldAAtHlInc s { s.regs with
      a := memRead s s.hl, h := hiByte (s.hl + 1), l := loByte (s.hl + 1), pc := s.regs.pc + 1 } ∧
    WritesRegs .ldAAtHlDec s { s.regs with
      a := memRead s s.hl, h := hiByte (s.hl - 1), l := loByte (s.hl - 1), pc := s.regs.pc + 1 }

/-- The stores of one byte (40_load8.md R132, R134 to R136, R139, R140, R143, R145, R147; the high page is D38's): LD
(HL),r ; LD (HL),d8 ; LD (BC),A ; LD (DE),A ; LD (HL+),A ; LD (HL-),A ; LDH (a8),A ; LD (C),A ; LD (a16),A. Each stores at
the address its operands give, HL moves by the stepping forms even when the write is denied, F is kept. -/
def Obligations.ByteStores : Prop :=
  ∀ (s : State) (r : Reg8) (d8 a8 : Byte) (a16 : Word),
    StoresByte (mkLd .atHl (.reg r)) s s.hl (s.getR8 r) s.hl s.regs.f 1 ∧
    StoresByte (.ldAtHlD8 d8) s s.hl d8 s.hl s.regs.f 2 ∧
    StoresByte .ldAtBcA s (s.regs.b ++ s.regs.c) s.regs.a s.hl s.regs.f 1 ∧
    StoresByte .ldAtDeA s (s.regs.d ++ s.regs.e) s.regs.a s.hl s.regs.f 1 ∧
    StoresByte .ldAtHlIncA s s.hl s.regs.a (s.hl + 1) s.regs.f 1 ∧
    StoresByte .ldAtHlDecA s s.hl s.regs.a (s.hl - 1) s.regs.f 1 ∧
    StoresByte (.ldhAtA8A a8) s (BitVec.ofNat 16 (0xFF00 + a8.toNat)) s.regs.a s.hl s.regs.f 2 ∧
    StoresByte .ldAtCA s (BitVec.ofNat 16 (0xFF00 + s.regs.c.toNat)) s.regs.a s.hl s.regs.f 1 ∧
    StoresByte (.ldAtA16A a16) s a16 s.regs.a s.hl s.regs.f 3

/-- LD rr,d16 ; LD SP,HL ; INC rr ; DEC rr (41_load16_stack.md R161, R163; 43_alu16.md R212, R213): the pair or SP takes
the value, modulo 65536, and no flag is touched. -/
def Obligations.PairLoadsAndSteps : Prop :=
  ∀ (s : State) (r : Reg16) (d16 : Word),
    WritesReg16 (mkLd16 r d16) s r d16 s.regs.f 3 ∧
    WritesReg16 .ldSpHl s .sp s.hl s.regs.f 1 ∧
    WritesReg16 (mkInc16 r) s r (BitVec.ofNat 16 ((s.getR16 r).toNat + 1)) s.regs.f 1 ∧
    WritesReg16 (mkDec16 r) s r (BitVec.ofNat 16 ((s.getR16 r).toNat + 65535)) s.regs.f 1

/-- LD (a16),SP (41_load16_stack.md R162, D1, D2): the low byte of SP at a16, then the high byte at a16 + 1, wrapping. -/
def Obligations.StoreOfSp : Prop :=
  ∀ (s : State) (a16 : Word), ∃ t, exec (.ldAtA16Sp a16) s = .next t ∧
    StoresTwoBytesAt s t a16 (BitVec.ofNat 8 s.regs.sp.toNat) (BitVec.ofNat 16 (a16.toNat + 1))
      (BitVec.ofNat 8 (s.regs.sp.toNat / 256)) ∧
    t.regs = { s.regs with pc := s.regs.pc + 3 }

/-- LDHL SP,e8 and ADD SP,e8 (41_load16_stack.md R165, 43_alu16.md R211; Z = N = 0 is D37's): the sum is signed, H and C
are those of the unsigned addition of the low bytes. -/
def Obligations.SpPlusDisplacement : Prop :=
  ∀ (s : State) (e8 : Byte),
    let sum := BitVec.ofInt 16 (s.regs.sp.toNat + e8.toInt)
    let f := flagByte false false (decide (s.regs.sp.toNat % 16 + e8.toNat % 16 ≥ 0x10))
      (decide (s.regs.sp.toNat % 256 + e8.toNat ≥ 0x100))
    WritesReg16 (.ldhlSpE8 e8) s .hl sum f 2 ∧ WritesReg16 (.addSpE8 e8) s .sp sum f 2

/-- PUSH and POP (41_load16_stack.md R160, R166, R167; byte order and direction are D1's): the high byte goes to SP - 1,
the low byte to SP - 2; POP reads the low byte at SP and the high byte at SP + 1. POP AF clears the low nibble of F. -/
def Obligations.PushAndPop : Prop :=
  ∀ s : State,
    let lo := memRead s s.regs.sp
    let hi := memRead s (s.regs.sp + 1)
    Pushes .pushBc s (s.regs.b ++ s.regs.c) (s.regs.pc + 1) ∧
    Pushes .pushDe s (s.regs.d ++ s.regs.e) (s.regs.pc + 1) ∧
    Pushes .pushHl s (s.regs.h ++ s.regs.l) (s.regs.pc + 1) ∧
    Pushes .pushAf s (s.regs.a ++ s.regs.f) (s.regs.pc + 1) ∧
    WritesRegs .popBc s { s.regs with b := hi, c := lo, sp := s.regs.sp + 2, pc := s.regs.pc + 1 } ∧
    WritesRegs .popDe s { s.regs with d := hi, e := lo, sp := s.regs.sp + 2, pc := s.regs.pc + 1 } ∧
    WritesRegs .popHl s { s.regs with h := hi, l := lo, sp := s.regs.sp + 2, pc := s.regs.pc + 1 } ∧
    WritesRegs .popAf s { s.regs with a := hi, f := lo &&& 0xF0, sp := s.regs.sp + 2, pc := s.regs.pc + 1 }

/-- Pushing a pair and popping it back restores the whole register file but PC, whenever both stack bytes are storage
cells and no gate denies them (41_load16_stack.md R160, the source's `push(V); pop() == V`; derived there). For AF the
premise is the invariant of R24. -/
def Obligations.PushThenPopRestores : Prop :=
  ∀ (s : State) (p : Stk16) (k1 k2 : Nat),
    denied s (s.regs.sp - 1) = false → target s (s.regs.sp - 1) = .cell k1 →
    denied s (s.regs.sp - 2) = false → target s (s.regs.sp - 2) = .cell k2 → s.regs.f.toNat % 16 = 0 →
    ∃ t u, exec (mkPush p) s = .next t ∧ exec (mkPop p) t = .next u ∧
      u.regs = { s.regs with pc := s.regs.pc + 2 } ∧ t.mem.read k1 = hiByte (s.getStk p) ∧
      t.mem.read k2 = loByte (s.getStk p)

/-! ## 8-bit arithmetic and logic -/

/-- ADD, ADC, SUB, SBC and CP in their three operand forms (42_alu8.md R180 to R183, R187, R194, R195): the result modulo
256 and the four flags, by integer arithmetic; CP leaves A. -/
def Obligations.AccumulatorArithmetic : Prop :=
  ∀ (s : State) (form : AluOp → Instr) (v : Byte) (len : Nat), AluSource s form v len →
    let a := s.regs.a.toNat
    let b := v.toNat
    let cin := s.regs.f.toNat / 16 % 2
    WritesReg8 (form .add) s .a (BitVec.ofNat 8 (a + b))
      (flagByte (decide ((a + b) % 256 = 0)) false (decide (a % 16 + b % 16 ≥ 0x10)) (decide (a + b ≥ 0x100))) len ∧
    WritesReg8 (form .adc) s .a (BitVec.ofNat 8 (a + b + cin))
      (flagByte (decide ((a + b + cin) % 256 = 0)) false (decide (a % 16 + b % 16 + cin ≥ 0x10))
        (decide (a + b + cin ≥ 0x100))) len ∧
    WritesReg8 (form .sub) s .a (BitVec.ofNat 8 (256 + a - b))
      (flagByte (decide (a = b)) true (decide (a % 16 < b % 16)) (decide (a < b))) len ∧
    WritesReg8 (form .sbc) s .a (BitVec.ofNat 8 (512 + a - b - cin))
      (flagByte (decide ((512 + a - b - cin) % 256 = 0)) true (decide (a % 16 < b % 16 + cin))
        (decide (a < b + cin))) len ∧
    WritesReg8 (form .cp) s .a s.regs.a
      (flagByte (decide (a = b)) true (decide (a % 16 < b % 16)) (decide (a < b))) len

/-- AND, XOR and OR in their three operand forms (42_alu8.md R184 to R186, R194; the H of AND is D7's). -/
def Obligations.AccumulatorLogic : Prop :=
  ∀ (s : State) (form : AluOp → Instr) (v : Byte) (len : Nat), AluSource s form v len →
    WritesReg8 (form .and) s .a (s.regs.a &&& v) (flagByte (decide (s.regs.a &&& v = 0)) false true false) len ∧
    WritesReg8 (form .xor) s .a (s.regs.a ^^^ v) (flagByte (decide (s.regs.a = v)) false false false) len ∧
    WritesReg8 (form .or) s .a (s.regs.a ||| v)
      (flagByte (decide (s.regs.a = 0 ∧ v = 0)) false false false) len

/-- INC and DEC of a register and of the byte at HL (42_alu8.md R188, R189; the flags are D37's): C is kept. -/
def Obligations.IncrementAndDecrement : Prop :=
  ∀ (s : State) (r : Reg8),
    let c := s.flags.c
    let v := s.getR8 r
    let m := memRead s s.hl
    WritesReg8 (mkInc8 (.reg r)) s r (v + 1)
      (flagByte (decide (v.toNat = 255)) false (decide (v.toNat % 16 = 15)) c) 1 ∧
    WritesReg8 (mkDec8 (.reg r)) s r (v - 1)
      (flagByte (decide (v.toNat = 1)) true (decide (v.toNat % 16 = 0)) c) 1 ∧
    StoresByte .incAtHl s s.hl (m + 1) s.hl
      (flagByte (decide (m.toNat = 255)) false (decide (m.toNat % 16 = 15)) c) 1 ∧
    StoresByte .decAtHl s s.hl (m - 1) s.hl
      (flagByte (decide (m.toNat = 1)) true (decide (m.toNat % 16 = 0)) c) 1

/-- DAA, CPL, SCF, CCF (42_alu8.md R190 to R193; the DAA table is D35's, the flags D37's). -/
def Obligations.AccumulatorAdjustments : Prop :=
  ∀ s : State,
    let a := s.regs.a.toNat
    let fl := s.flags
    let low := if fl.h ∨ (fl.n = false ∧ a % 16 > 9) then 0x06 else 0
    let high := if fl.c ∨ (fl.n = false ∧ a > 0x99) then 0x60 else 0
    let res := if fl.n then (256 + a - (low + high)) % 256 else (a + low + high) % 256
    WritesReg8 .daa s .a (BitVec.ofNat 8 res)
      (flagByte (decide (res = 0)) fl.n false (fl.c || (!fl.n && decide (a > 0x99)))) 1 ∧
    WritesReg8 .cpl s .a (BitVec.ofNat 8 (255 - a)) (flagByte fl.z true true fl.c) 1 ∧
    WritesReg8 .scf s .a s.regs.a (flagByte fl.z false false true) 1 ∧
    WritesReg8 .ccf s .a s.regs.a (flagByte fl.z false false (!fl.c)) 1

/-- After ADD, ADC, SUB or SBC of two packed decimal numbers DAA leaves the decimal sum or difference modulo 100, again
packed decimal, with the decimal carry or borrow in C (42_alu8.md R190, the source's property; the table is D35's). -/
def Obligations.DaaGivesDecimalResults : Prop :=
  ∀ (s : State) (d : Byte), IsBcd s.regs.a → IsBcd d →
    let cin := s.flags.c.toNat
    (∀ (i : Instr) (c : Nat), (i, c) = (.addAD8 d, 0) ∨ (i, c) = (.adcAD8 d, cin) →
      ∃ t u, exec i s = .next t ∧ exec .daa t = .next u ∧ IsBcd u.regs.a ∧
        bcdValue u.regs.a + 100 * u.flags.c.toNat = bcdValue s.regs.a + bcdValue d + c) ∧
    (∀ (i : Instr) (c : Nat), (i, c) = (.subD8 d, 0) ∨ (i, c) = (.sbcAD8 d, cin) →
      ∃ t u, exec i s = .next t ∧ exec .daa t = .next u ∧ IsBcd u.regs.a ∧
        bcdValue u.regs.a + bcdValue d + c = bcdValue s.regs.a + 100 * u.flags.c.toNat)

/-- ADD HL,rr (43_alu16.md R210, C6, D34): the 16-bit sum, H out of bit 11, C out of bit 15, Z kept. -/
def Obligations.AddToHl : Prop :=
  ∀ (s : State) (r : Reg16),
    let a := s.hl.toNat
    let b := (s.getR16 r).toNat
    WritesReg16 (mkAddHl r) s .hl (BitVec.ofNat 16 (a + b))
      (flagByte s.flags.z false (decide (a % 0x1000 + b % 0x1000 ≥ 0x1000)) (decide (a + b ≥ 0x10000))) 1

/-! ## Rotates, shifts and bits -/

/-- RLCA, RRCA, RLA, RRA (44_rotate_shift_bit.md R220 to R223): A rotated, C the bit shifted out, N = H = 0, Z kept or,
with the parameter ROTA_CLEARS_Z, cleared (D6), in neither case computed. -/
def Obligations.AccumulatorRotates : Prop :=
  ∀ (s : State) (i : Instr) (op : RotOp),
    (i, op) ∈ [(Instr.rlca, RotOp.rlc), (.rrca, .rrc), (.rla, .rl), (.rra, .rr)] →
    let r := rotArith op s.regs.a.toNat s.flags.c.toNat
    WritesReg8 i s .a (BitVec.ofNat 8 r.1)
      (flagByte (s.flags.z && !s.params.rotaClearsZ) false false (decide (r.2 = 1))) 1

/-- RLC, RRC, RL, RR, SLA, SRA, SWAP, SRL of a register and of the byte at HL (44_rotate_shift_bit.md R224 to R231, R235,
R236): the result by arithmetic, Z from it, N = H = 0, C the bit shifted out, one write to the operand. -/
def Obligations.ExtendedRotatesAndShifts : Prop :=
  ∀ (s : State) (op : RotOp) (r : Reg8),
    (let x := rotArith op (s.getR8 r).toNat s.flags.c.toNat
     WritesReg8 (mkRot op (.reg r)) s r (BitVec.ofNat 8 x.1)
       (flagByte (decide (x.1 = 0)) false false (decide (x.2 = 1))) 2) ∧
    (let x := rotArith op (memRead s s.hl).toNat s.flags.c.toNat
     StoresByte (mkRot op .atHl) s s.hl (BitVec.ofNat 8 x.1) s.hl
       (flagByte (decide (x.1 = 0)) false false (decide (x.2 = 1))) 2)

/-- BIT, RES and SET of every bit of a register and of the byte at HL (44_rotate_shift_bit.md R232 to R235; H and C of BIT
and the untouched flags of RES and SET are D8's): BIT writes only F, RES and SET write only their operand. -/
def Obligations.BitInstructions : Prop :=
  ∀ (s : State) (b : Octal) (r : Reg8),
    let isSet := fun (v : Byte) => v.toNat / 2 ^ b.toNat % 2 = 1
    let v := s.getR8 r
    let m := memRead s s.hl
    WritesReg8 (mkBit b (.reg r)) s .a s.regs.a (flagByte (decide (¬ isSet v)) false true s.flags.c) 2 ∧
    WritesReg8 (mkBit b .atHl) s .a s.regs.a (flagByte (decide (¬ isSet m)) false true s.flags.c) 2 ∧
    WritesReg8 (mkRes b (.reg r)) s r (if isSet v then v - BitVec.ofNat 8 (2 ^ b.toNat) else v) s.regs.f 2 ∧
    StoresByte (mkRes b .atHl) s s.hl (if isSet m then m - BitVec.ofNat 8 (2 ^ b.toNat) else m) s.hl s.regs.f 2 ∧
    WritesReg8 (mkSet b (.reg r)) s r (if isSet v then v else v + BitVec.ofNat 8 (2 ^ b.toNat)) s.regs.f 2 ∧
    StoresByte (mkSet b .atHl) s s.hl (if isSet m then m else m + BitVec.ofNat 8 (2 ^ b.toNat)) s.hl s.regs.f 2

/-! ## Control transfer -/

/-- JP a16 ; JP HL ; JR e8 ; JP cc,a16 ; JR cc,e8 (45_control_flow.md R250 to R254): only PC changes, modulo 65536. -/
def Obligations.Jumps : Prop :=
  ∀ (s : State) (cc : Cond) (a16 : Word) (e8 : Byte),
    let rel := BitVec.ofInt 16 (s.regs.pc.toNat + 2 + e8.toInt)
    WritesRegs (.jpA16 a16) s { s.regs with pc := a16 } ∧
    WritesRegs .jpHl s { s.regs with pc := s.regs.h ++ s.regs.l } ∧
    WritesRegs (.jrE8 e8) s { s.regs with pc := rel } ∧
    WritesRegs (mkJp cc a16) s { s.regs with pc := if condHolds cc s.regs.f then a16 else s.regs.pc + 3 } ∧
    WritesRegs (mkJr cc e8) s { s.regs with pc := if condHolds cc s.regs.f then rel else s.regs.pc + 2 }

/-- CALL a16 ; CALL cc,a16 ; RST n (45_control_flow.md R255, R256, R260; the stack layout is D1's): the address after the
instruction is pushed and control goes to the target; a call not taken only moves PC. -/
def Obligations.Calls : Prop :=
  ∀ (s : State) (cc : Cond) (a16 : Word) (y : Octal),
    Pushes (.callA16 a16) s (s.regs.pc + 3) a16 ∧
    (condHolds cc s.regs.f = true → Pushes (mkCall cc a16) s (s.regs.pc + 3) a16) ∧
    (condHolds cc s.regs.f = false → WritesRegs (mkCall cc a16) s { s.regs with pc := s.regs.pc + 3 }) ∧
    Pushes (mkRst y) s (s.regs.pc + 1) (BitVec.ofNat 16 (8 * y.toNat))

/-- RET ; RET cc ; RETI (45_control_flow.md R257 to R259, 60_exceptions.md R308; the stack layout is D1's): PC takes the
word at SP, SP moves up by two, and RETI also sets IME; a return not taken only moves PC. -/
def Obligations.Returns : Prop :=
  ∀ (s : State) (cc : Cond),
    let back := { s.regs with sp := s.regs.sp + 2, pc := memRead s (s.regs.sp + 1) ++ memRead s s.regs.sp }
    WritesRegs .ret s back ∧
    WritesRegs (mkRet cc) s (if condHolds cc s.regs.f then back else { s.regs with pc := s.regs.pc + 1 }) ∧
    exec .reti s = .next { s with regs := back, ime := true } ∧
    ∀ a, memRead { s with regs := back, ime := true } a = memRead s a

/-! ## System instructions -/

/-- NOP (46_system.md R270): byte 0x00, one byte, 4 cycles by the default costs; PC moves on by one, nothing else changes,
and a step of it lets its 4 cycles reach the timers and the lockout. -/
def Obligations.NopOnlyMovesPc : Prop :=
  (∀ b1 b2, decodeBytes 0x00 b1 b2 = .nop) ∧ byteLength .nop = 1 ∧ costOf Params.default .nop = (4, 0) ∧
  (∀ s : State, WritesRegs .nop s { s.regs with pc := s.regs.pc + 1 }) ∧
  (∀ s : State, s.fault = none → s.halted = false → s.eiPending = false → s.params.cycles = [] → s.env = [] →
    memRead s s.regs.pc = 0x00 → (candidate (stepTimer 4 s) = none ∨ s.ime = false) →
    ∃ t, step s = .next t ∧ t.divAcc = (s.divAcc + 4) % 256 ∧ t.io = (stepTimer 4 s).io ∧
      t.timaAcc = (stepTimer 4 s).timaAcc ∧ t.dmaRemaining = s.dmaRemaining - min 4 s.dmaRemaining ∧
      t.regs = { s.regs with pc := s.regs.pc + 1 } ∧
      t.mem = s.mem)

/-- HALT, DI, EI, STOP and the undefined opcodes (46_system.md R271 to R273, R275, R276; STOP is D22's, EI_DELAY D5's and
log entry 7's): each changes the one thing its rule names. A fatal fault is recorded in the next state (60_exceptions.md
R301, log entry 10). -/
def Obligations.SystemInstructions : Prop :=
  ∀ (s : State) (pad op : Byte),
    let next := { s.regs with pc := s.regs.pc + 1 }
    exec .halt s = .next { s with regs := next, halted := true } ∧
    exec .di s = .next { s with regs := next, ime := false, eiPending := false } ∧
    (s.params.eiDelay = false → exec .ei s = .next { s with regs := next, ime := true }) ∧
    (s.params.eiDelay = true → exec .ei s = .next { s with regs := next, eiPending := !s.ime }) ∧
    exec (.stop pad) s = .next { s with fault := some (.executorError "STOP") } ∧
    exec (.undefined op) s = .next { s with fault := some (.decodeError op) }

/-- The prefix and its second byte are one instruction (46_system.md R274, 30_encoding.md R107): the row PREFIX CB with
its second byte means what the decoded pair means, it completes, PC moves on by two, and IME and SP are as before (log
entry 13). -/
def Obligations.PrefixPairIsOneInstruction : Prop :=
  ∀ (op2 b : Byte) (s : State),
    exec (.prefixCb op2) s = exec (decodeBytes 0xCB op2 b) s ∧ byteLength (decodeBytes 0xCB op2 b) = 2 ∧
    ∃ t, exec (.prefixCb op2) s = .next t ∧ t.regs.pc = s.regs.pc + 2 ∧ t.regs.sp = s.regs.sp ∧ t.ime = s.ime ∧
      t.halted = s.halted ∧ t.fault = s.fault

/-! ## Interrupts, timer, environment -/

/-- The candidate is the lowest-numbered source that is requested and enabled, and bits 7:5 of IF and IE do not matter
(60_exceptions.md R302, R304; reading storage directly is D19's, the ignored bits are D27's). -/
def Obligations.CandidateIsLowestRequestedAndEnabled : Prop :=
  ∀ s : State,
    (candidate s = none ↔ ∀ n < 5, ¬ (s.io.ifReg.getLsbD n = true ∧ s.io.ie.getLsbD n = true)) ∧
    (∀ i, candidate s = some i ↔ (s.io.ifReg.getLsbD i.bit = true ∧ s.io.ie.getLsbD i.bit = true) ∧
      ∀ n < i.bit, ¬ (s.io.ifReg.getLsbD n = true ∧ s.io.ie.getLsbD n = true))

/-- The entry into a handler (60_exceptions.md R305, R306; the gated push is D25's): with a candidate and IME set, the
request bit and IME are cleared, PC is pushed and control goes to 0x40 + 8i; exactly IF[i], IME, SP, the stack bytes and
PC change. Without a candidate or with IME clear nothing changes. -/
def Obligations.InterruptEntry : Prop :=
  ∀ s : State,
    ((candidate s = none ∨ s.ime = false) → serviceInterrupts s = s) ∧
    (∀ i, candidate s = some i → s.ime = true →
      ∃ f : Byte, (∀ n, f.getLsbD n = (s.io.ifReg.getLsbD n && decide (n ≠ i.bit))) ∧
        let s1 := { s with io := { s.io with ifReg := f }, ime := false }
        StoresTwoBytesAt s1 (serviceInterrupts s) (s.regs.sp - 1) (hiByte s.regs.pc) (s.regs.sp - 2)
          (loByte s.regs.pc) ∧
        (serviceInterrupts s).ime = false ∧
        (serviceInterrupts s).regs =
          { s.regs with sp := s.regs.sp - 2, pc := BitVec.ofNat 16 (0x40 + 8 * i.bit) })

/-- 60_exceptions.md R310: without a candidate the core stays halted; a requested and enabled source wakes it whatever IME
is; with IME clear execution resumes and the request stays; with IME set the source is dispatched as an interrupt is, to the
vector of R305. This scan, and no other, closes a step that leaves the core halted (R331). The pushed bytes' places are
D1's, their gated writes D25's (41_load16_stack.md R160; log entries 18, 21, 22). -/
def Obligations.HaltWakesOnEnabledRequests : Prop :=
  ∀ s : State,
    (candidate s = none → serviceHaltInterrupts s = s) ∧
    (∀ i, candidate s = some i → s.ime = false → serviceHaltInterrupts s = { s with halted := false }) ∧
    (∀ i, candidate s = some i → s.ime = true →
      serviceHaltInterrupts s = serviceInterrupts { s with halted := false } ∧
      (serviceHaltInterrupts s).halted = false ∧ (serviceHaltInterrupts s).ime = false ∧
      (serviceHaltInterrupts s).regs =
        { s.regs with sp := s.regs.sp - 2, pc := BitVec.ofNat 16 (0x40 + 8 * i.bit) } ∧
      ∃ f : Byte, (∀ n, f.getLsbD n = (s.io.ifReg.getLsbD n && decide (n ≠ i.bit))) ∧
        StoresTwoBytesAt { s with io := { s.io with ifReg := f }, ime := false, halted := false }
          (serviceHaltInterrupts s) (s.regs.sp - 1) (hiByte s.regs.pc) (s.regs.sp - 2) (loByte s.regs.pc)) ∧
    (∀ c, (environmentStep (stepTimer c (dmaCountdown c s))).halted = true →
      closeStep c s = serviceHaltInterrupts (environmentStep (stepTimer c (dmaCountdown c s))))

/-- 60_exceptions.md R320 and R322: DIV counts one for every 256 cycles, the rest staying in its accumulator, whether or
not the timer is enabled or the core halted, and requests nothing; with the timer disabled its accumulator is zero after
every call and TIMA and the requests do not change. A write to DIV clears it and leaves TIMA, a write to TAC leaves the
accumulators (20_memory.md R85, R81). The addresses 0xFF04 and 0xFF07, the enable bit TAC[2] and the clearing write are
the spec's decision D26 (log entry 20). -/
def Obligations.DividerAndDisabledTimer : Prop :=
  ∀ (s : State) (c : Nat) (v : Byte),
    (stepTimer c s).io.div = BitVec.ofNat 8 (s.io.div.toNat + (s.divAcc + c) / 256) ∧
    (stepTimer c s).divAcc = (s.divAcc + c) % 256 ∧
    (stepDivider c s).io.ifReg = s.io.ifReg ∧
    (s.io.tac.getLsbD 2 = false →
      stepTimer c s =
        { s with io := { s.io with div := (stepTimer c s).io.div }, divAcc := (stepTimer c s).divAcc, timaAcc := 0 }) ∧
    (s.dmaRemaining = 0 →
      memWrite s 0xFF04 v = { s with io := { s.io with div := 0 }, divAcc := 0 } ∧
      memWrite s 0xFF07 v = { s with io := { s.io with tac := v } })

/-- The enabled timer (60_exceptions.md R321; the periods are 10_state.md R39's, D26, several ticks in a call D39's): with
`n` ticks due, TIMA counts them; from the tick that overflows on it counts from TMA, modulo the distance from TMA to 256,
and the request bit 2 is set; no other state changes but the accumulators and DIV. -/
def Obligations.TimerCountsReloadsAndRequests : Prop :=
  ∀ (s : State) (c : Nat), s.io.tac.getLsbD 2 = true →
    let period := [1024, 16, 64, 256].getD (s.io.tac.toNat % 4) 0
    let n := (s.timaAcc + c) / period
    let left := 256 - s.io.tima.toNat
    let t := stepTimer c s
    t = { s with io := { s.io with div := t.io.div, tima := t.io.tima, ifReg := t.io.ifReg },
                 divAcc := t.divAcc, timaAcc := (s.timaAcc + c) % period } ∧
    (n < left → t.io.tima.toNat = s.io.tima.toNat + n ∧ t.io.ifReg = s.io.ifReg) ∧
    (left ≤ n → t.io.tima.toNat = s.io.tma.toNat + (n - left) % (256 - s.io.tma.toNat) ∧
      t.io.ifReg = s.io.ifReg ||| 0b100)

/-- Letting m + n cycles elapse is letting m elapse and then n (60_exceptions.md R320 to R322: the counters depend on the
cycles elapsed, not on how steps cut them). -/
def Obligations.TimerIsAdditive : Prop :=
  ∀ (s : State) (m n : Nat), stepTimer (m + n) s = stepTimer n (stepTimer m s)

/-- The environment's liberties (60_exceptions.md R330, D33, log entry 8): whatever its schedule, it raises requests but
never the timer's and never clears one, and touches of the rest only STAT, plain I/O bytes and the joypad. -/
def Obligations.EnvironmentKeepsToItsLiberties : Prop :=
  ∀ s : State,
    let t := environmentStep s
    t = { s with io := { s.io with ifReg := t.io.ifReg, stat := t.io.stat }, mem := t.mem, joypad := t.joypad,
                 env := t.env } ∧
    (∀ n, s.io.ifReg.getLsbD n = true → t.io.ifReg.getLsbD n = true) ∧
    (∀ n, n = 2 ∨ 5 ≤ n → t.io.ifReg.getLsbD n = s.io.ifReg.getLsbD n) ∧
    (∀ k, k < 0xFF00 ∨ 0xFF7F < k → t.mem.read k = s.mem.read k) ∧
    t.env = s.env.tail
end

