-- ==== Sys2Proof/Laws/Memory.lean ====
section
/-! SUPPORT. The laws of storage: read after write, the canonical form, and that the canonical form is one list per
contents. -/

namespace Sys2Proof.Machine.Memory

theorem read_cons_self (m : Memory) (k : Nat) (v : Byte) (h : ∀ c ∈ m.head?, k < c.1) :
    Memory.read (Memory.cons k v m) k = v := by
  unfold Memory.cons
  split
  · rename_i hv
    cases m with
    | nil => simp [Memory.read, hv]
    | cons c t =>
      have : k < c.1 := h c (by simp)
      obtain ⟨k', v'⟩ := c
      simp only at this
      simp [Memory.read, Nat.not_lt.mpr (Nat.le_of_lt this), Nat.ne_of_gt this, hv]
  · simp [Memory.read]

theorem read_cons_above (m : Memory) (k j : Nat) (v : Byte) (h : k < j) :
    Memory.read (Memory.cons k v m) j = Memory.read m j := by
  unfold Memory.cons
  split
  · rfl
  · simp [Memory.read, h]

theorem read_cons_below (m : Memory) (k j : Nat) (v : Byte) (h : j < k) (hm : ∀ c ∈ m.head?, k < c.1) :
    Memory.read (Memory.cons k v m) j = unlisted j := by
  unfold Memory.cons
  split
  · cases m with
    | nil => rfl
    | cons c t =>
      have h2 : k < c.1 := hm c (by simp)
      obtain ⟨k', v'⟩ := c
      simp only at h2
      have : ¬ k' < j := by omega
      have h3 : k' ≠ j := by omega
      simp [Memory.read, this, h3]
  · have : ¬ k < j := by omega
    have h3 : k ≠ j := by omega
    simp [Memory.read, this, h3]

theorem head_dropWhile (m : Memory) (k : Nat) :
    ∀ c ∈ (m.dropWhile (fun c => decide (c.1 ≤ k))).head?, k < c.1 := by
  induction m with
  | nil => simp
  | cons c t ih =>
    rw [List.dropWhile_cons]
    split
    · exact ih
    · rename_i h
      intro c' hc'
      simp only [List.head?_cons, Option.mem_def, Option.some.injEq] at hc'
      subst hc'
      simpa using h

theorem read_dropWhile_above (m : Memory) (k j : Nat) (h : k < j) :
    Memory.read (m.dropWhile (fun c => decide (c.1 ≤ k))) j = Memory.read m j := by
  induction m with
  | nil => rfl
  | cons c t ih =>
    obtain ⟨k', v'⟩ := c
    rw [List.dropWhile_cons]
    split
    · rename_i hk
      have : k' < j := Nat.lt_of_le_of_lt (by simpa using hk) h
      rw [ih]
      simp [Memory.read, this]
    · rfl

/-- The byte written is the byte read. -/
@[simp] theorem read_write_same (m : Memory) (k : Nat) (v : Byte) : (Memory.write m k v).read k = v := by
  induction m with
  | nil => exact read_cons_self _ _ _ (by simp)
  | cons c t ih =>
    obtain ⟨k', v'⟩ := c
    simp only [Memory.write]
    split
    · rename_i h
      simp only [Memory.read, h, if_true, ih]
    · exact read_cons_self _ _ _ (head_dropWhile _ _)

/-- A write leaves every other byte alone. -/
theorem read_write_ne (m : Memory) (k j : Nat) (v : Byte) (h : j ≠ k) :
    (Memory.write m k v).read j = m.read j := by
  induction m with
  | nil =>
    rcases Nat.lt_or_gt_of_ne h with h | h
    · exact read_cons_below _ _ _ _ h (by simp)
    · exact read_cons_above _ _ _ _ h
  | cons c t ih =>
    obtain ⟨k', v'⟩ := c
    simp only [Memory.write]
    split
    · simp only [Memory.read, ih]
    · rename_i hk
      rcases Nat.lt_or_gt_of_ne h with h | h
      · rw [read_cons_below _ _ _ _ h (head_dropWhile _ _)]
        have h1 : ¬ k' < j := by omega
        have h2 : k' ≠ j := by omega
        simp [Memory.read, h1, h2]
      · rw [read_cons_above _ _ _ _ h, read_dropWhile_above _ _ _ h]

/-- Both in one rewriting rule. -/
theorem read_write (m : Memory) (k j : Nat) (v : Byte) :
    (Memory.write m k v).read j = if j = k then v else m.read j := by
  split
  · subst j; exact read_write_same m k v
  · rename_i h; exact read_write_ne m k j v h

/-! ## The canonical form -/

theorem wfFrom_mono (m : Memory) (lo lo' : Nat) (h : lo' ≤ lo) (hm : Memory.wfFrom lo m = true) :
    Memory.wfFrom lo' m = true := by
  cases m with
  | nil => rfl
  | cons c t =>
    obtain ⟨k, v⟩ := c
    simp only [Memory.wfFrom, Bool.and_eq_true, decide_eq_true_eq] at hm ⊢
    exact ⟨⟨by omega, hm.1.2⟩, hm.2⟩

theorem wfFrom_cons (m : Memory) (lo k : Nat) (v : Byte) (h : lo ≤ k) (hm : Memory.wfFrom (k + 1) m = true) :
    Memory.wfFrom lo (Memory.cons k v m) = true := by
  unfold Memory.cons
  split
  · exact wfFrom_mono _ _ _ (by omega) hm
  · rename_i hv
    simp [Memory.wfFrom, h, hv, hm]

theorem wfFrom_dropWhile (m : Memory) (lo k : Nat) (hm : Memory.wfFrom lo m = true) :
    Memory.wfFrom (k + 1) (m.dropWhile (fun c => decide (c.1 ≤ k))) = true := by
  induction m generalizing lo with
  | nil => rfl
  | cons c t ih =>
    obtain ⟨k', v'⟩ := c
    simp only [Memory.wfFrom, Bool.and_eq_true, decide_eq_true_eq] at hm
    rw [List.dropWhile_cons]
    split
    · exact ih _ hm.2
    · rename_i hk
      have : k < k' := by simpa using hk
      simp only [Memory.wfFrom, Bool.and_eq_true, decide_eq_true_eq]
      exact ⟨⟨by omega, hm.1.2⟩, hm.2⟩

theorem wfFrom_write (m : Memory) (lo k : Nat) (v : Byte) (h : lo ≤ k) (hm : Memory.wfFrom lo m = true) :
    Memory.wfFrom lo (Memory.write m k v) = true := by
  induction m generalizing lo with
  | nil => exact wfFrom_cons _ _ _ _ h rfl
  | cons c t ih =>
    obtain ⟨k', v'⟩ := c
    simp only [Memory.write]
    split
    · rename_i hk
      simp only [Memory.wfFrom, Bool.and_eq_true, decide_eq_true_eq] at hm ⊢
      exact ⟨hm.1, ih (k' + 1) (by omega) hm.2⟩
    · exact wfFrom_cons _ _ _ _ h (wfFrom_dropWhile _ _ _ hm)

/-- Every write keeps the canonical form. -/
theorem wf_write (m : Memory) (k : Nat) (v : Byte) (hm : m.wf = true) : (Memory.write m k v).wf = true :=
  wfFrom_write m 0 k v (Nat.zero_le k) hm

/-- The empty storage has it. -/
theorem wf_nil : Memory.wf [] = true := rfl

/-- Below its first key a canonical storage reads as unlisted. -/
theorem read_below (m : Memory) (lo k : Nat) (hm : Memory.wfFrom lo m = true) (h : k < lo) : m.read k = unlisted k := by
  cases m with
  | nil => rfl
  | cons c t =>
    obtain ⟨k', v'⟩ := c
    simp only [Memory.wfFrom, Bool.and_eq_true, decide_eq_true_eq] at hm
    have h1 : ¬ k' < k := by omega
    have h2 : k' ≠ k := by omega
    simp [Memory.read, h1, h2]

/-- Two storages in canonical form that read alike are the same list: the form is one list per contents. -/
theorem ext_of_wfFrom (m m' : Memory) (lo : Nat) (h : Memory.wfFrom lo m = true) (h' : Memory.wfFrom lo m' = true)
    (he : ∀ k, m.read k = m'.read k) : m = m' := by
  induction m generalizing m' lo with
  | nil =>
    cases m' with
    | nil => rfl
    | cons c t =>
      simp only [Memory.wfFrom, Bool.and_eq_true, bne_iff_ne] at h'
      have := he c.1
      simp only [Memory.read, Nat.lt_irrefl, if_false, if_true] at this
      exact absurd this.symm h'.1.2
  | cons c t ih =>
    simp only [Memory.wfFrom, Bool.and_eq_true, decide_eq_true_eq, bne_iff_ne] at h
    cases m' with
    | nil =>
      have := he c.1
      simp only [Memory.read, Nat.lt_irrefl, if_false, if_true] at this
      exact absurd this h.1.2
    | cons c' t' =>
      simp only [Memory.wfFrom, Bool.and_eq_true, decide_eq_true_eq, bne_iff_ne] at h'
      have hk : c.1 = c'.1 := by
        have h1 := he c.1
        have h2 := he c'.1
        simp only [Memory.read, Nat.lt_irrefl, if_false, if_true] at h1 h2
        rcases Nat.lt_trichotomy c.1 c'.1 with hl | hl | hl
        · rw [if_neg (by omega), if_neg (by omega)] at h1; exact absurd h1 h.1.2
        · exact hl
        · rw [if_neg (by omega), if_neg (by omega)] at h2; exact absurd h2.symm h'.1.2
      have hv : c.2 = c'.2 := by
        have h1 := he c.1
        simpa only [Memory.read, hk, Nat.lt_irrefl, if_false, if_true] using h1
      have ht : t = t' := by
        refine ih t' (c.1 + 1) h.2 (by rw [hk]; exact h'.2) (fun k => ?_)
        by_cases hlt : c.1 < k
        · have := he k
          simpa only [Memory.read, if_pos hlt, if_pos (hk ▸ hlt)] using this
        · rw [read_below t _ k h.2 (by omega), read_below t' _ k h'.2 (by omega)]
      rw [Prod.ext hk hv, ht]
/-- The same for the canonical form itself. -/
theorem ext_of_wf (m m' : Memory) (h : m.wf = true) (h' : m'.wf = true) (he : ∀ k, m.read k = m'.read k) : m = m' :=
  ext_of_wfFrom m m' 0 h h' he

end Sys2Proof.Machine.Memory
end

