-- ==== Sys2Proof/Laws/State.lean ====
section
/-! SUPPORT. What each named update of the state leaves and what it gives, one lemma per update and field, so that no
later proof unfolds a record update. -/

namespace Sys2Proof.Machine

/-! ## setR8 -/

@[simp] theorem State.setR8_ime (s : State) (r : Reg8) (v : Byte) : (s.setR8 r v).ime = s.ime := by cases r <;> rfl
@[simp] theorem State.setR8_eiPending (s : State) (r : Reg8) (v : Byte) : (s.setR8 r v).eiPending = s.eiPending := by cases r <;> rfl
@[simp] theorem State.setR8_halted (s : State) (r : Reg8) (v : Byte) : (s.setR8 r v).halted = s.halted := by cases r <;> rfl
@[simp] theorem State.setR8_fault (s : State) (r : Reg8) (v : Byte) : (s.setR8 r v).fault = s.fault := by cases r <;> rfl
@[simp] theorem State.setR8_hasBooted (s : State) (r : Reg8) (v : Byte) : (s.setR8 r v).hasBooted = s.hasBooted := by cases r <;> rfl
@[simp] theorem State.setR8_mbc (s : State) (r : Reg8) (v : Byte) : (s.setR8 r v).mbc = s.mbc := by cases r <;> rfl
@[simp] theorem State.setR8_dmaRemaining (s : State) (r : Reg8) (v : Byte) : (s.setR8 r v).dmaRemaining = s.dmaRemaining := by cases r <;> rfl
@[simp] theorem State.setR8_divAcc (s : State) (r : Reg8) (v : Byte) : (s.setR8 r v).divAcc = s.divAcc := by cases r <;> rfl
@[simp] theorem State.setR8_timaAcc (s : State) (r : Reg8) (v : Byte) : (s.setR8 r v).timaAcc = s.timaAcc := by cases r <;> rfl
@[simp] theorem State.setR8_io (s : State) (r : Reg8) (v : Byte) : (s.setR8 r v).io = s.io := by cases r <;> rfl
@[simp] theorem State.setR8_mem (s : State) (r : Reg8) (v : Byte) : (s.setR8 r v).mem = s.mem := by cases r <;> rfl
@[simp] theorem State.setR8_joypad (s : State) (r : Reg8) (v : Byte) : (s.setR8 r v).joypad = s.joypad := by cases r <;> rfl
@[simp] theorem State.setR8_params (s : State) (r : Reg8) (v : Byte) : (s.setR8 r v).params = s.params := by cases r <;> rfl
@[simp] theorem State.setR8_env (s : State) (r : Reg8) (v : Byte) : (s.setR8 r v).env = s.env := by cases r <;> rfl
@[simp] theorem State.setR8_regs_f (s : State) (r : Reg8) (v : Byte) : (s.setR8 r v).regs.f = s.regs.f := by cases r <;> rfl
@[simp] theorem State.setR8_regs_sp (s : State) (r : Reg8) (v : Byte) : (s.setR8 r v).regs.sp = s.regs.sp := by cases r <;> rfl
@[simp] theorem State.setR8_regs_pc (s : State) (r : Reg8) (v : Byte) : (s.setR8 r v).regs.pc = s.regs.pc := by cases r <;> rfl

/-! ## setR16 -/

@[simp] theorem State.setR16_ime (s : State) (r : Reg16) (w : Word) : (s.setR16 r w).ime = s.ime := by cases r <;> rfl
@[simp] theorem State.setR16_eiPending (s : State) (r : Reg16) (w : Word) : (s.setR16 r w).eiPending = s.eiPending := by cases r <;> rfl
@[simp] theorem State.setR16_halted (s : State) (r : Reg16) (w : Word) : (s.setR16 r w).halted = s.halted := by cases r <;> rfl
@[simp] theorem State.setR16_fault (s : State) (r : Reg16) (w : Word) : (s.setR16 r w).fault = s.fault := by cases r <;> rfl
@[simp] theorem State.setR16_hasBooted (s : State) (r : Reg16) (w : Word) : (s.setR16 r w).hasBooted = s.hasBooted := by cases r <;> rfl
@[simp] theorem State.setR16_mbc (s : State) (r : Reg16) (w : Word) : (s.setR16 r w).mbc = s.mbc := by cases r <;> rfl
@[simp] theorem State.setR16_dmaRemaining (s : State) (r : Reg16) (w : Word) : (s.setR16 r w).dmaRemaining = s.dmaRemaining := by cases r <;> rfl
@[simp] theorem State.setR16_divAcc (s : State) (r : Reg16) (w : Word) : (s.setR16 r w).divAcc = s.divAcc := by cases r <;> rfl
@[simp] theorem State.setR16_timaAcc (s : State) (r : Reg16) (w : Word) : (s.setR16 r w).timaAcc = s.timaAcc := by cases r <;> rfl
@[simp] theorem State.setR16_io (s : State) (r : Reg16) (w : Word) : (s.setR16 r w).io = s.io := by cases r <;> rfl
@[simp] theorem State.setR16_mem (s : State) (r : Reg16) (w : Word) : (s.setR16 r w).mem = s.mem := by cases r <;> rfl
@[simp] theorem State.setR16_joypad (s : State) (r : Reg16) (w : Word) : (s.setR16 r w).joypad = s.joypad := by cases r <;> rfl
@[simp] theorem State.setR16_params (s : State) (r : Reg16) (w : Word) : (s.setR16 r w).params = s.params := by cases r <;> rfl
@[simp] theorem State.setR16_env (s : State) (r : Reg16) (w : Word) : (s.setR16 r w).env = s.env := by cases r <;> rfl
@[simp] theorem State.setR16_regs_a (s : State) (r : Reg16) (w : Word) : (s.setR16 r w).regs.a = s.regs.a := by cases r <;> rfl
@[simp] theorem State.setR16_regs_f (s : State) (r : Reg16) (w : Word) : (s.setR16 r w).regs.f = s.regs.f := by cases r <;> rfl
@[simp] theorem State.setR16_regs_pc (s : State) (r : Reg16) (w : Word) : (s.setR16 r w).regs.pc = s.regs.pc := by cases r <;> rfl

/-! ## setStk -/

@[simp] theorem State.setStk_ime (s : State) (r : Stk16) (w : Word) : (s.setStk r w).ime = s.ime := by cases r <;> rfl
@[simp] theorem State.setStk_eiPending (s : State) (r : Stk16) (w : Word) : (s.setStk r w).eiPending = s.eiPending := by cases r <;> rfl
@[simp] theorem State.setStk_halted (s : State) (r : Stk16) (w : Word) : (s.setStk r w).halted = s.halted := by cases r <;> rfl
@[simp] theorem State.setStk_fault (s : State) (r : Stk16) (w : Word) : (s.setStk r w).fault = s.fault := by cases r <;> rfl
@[simp] theorem State.setStk_hasBooted (s : State) (r : Stk16) (w : Word) : (s.setStk r w).hasBooted = s.hasBooted := by cases r <;> rfl
@[simp] theorem State.setStk_mbc (s : State) (r : Stk16) (w : Word) : (s.setStk r w).mbc = s.mbc := by cases r <;> rfl
@[simp] theorem State.setStk_dmaRemaining (s : State) (r : Stk16) (w : Word) : (s.setStk r w).dmaRemaining = s.dmaRemaining := by cases r <;> rfl
@[simp] theorem State.setStk_divAcc (s : State) (r : Stk16) (w : Word) : (s.setStk r w).divAcc = s.divAcc := by cases r <;> rfl
@[simp] theorem State.setStk_timaAcc (s : State) (r : Stk16) (w : Word) : (s.setStk r w).timaAcc = s.timaAcc := by cases r <;> rfl
@[simp] theorem State.setStk_io (s : State) (r : Stk16) (w : Word) : (s.setStk r w).io = s.io := by cases r <;> rfl
@[simp] theorem State.setStk_mem (s : State) (r : Stk16) (w : Word) : (s.setStk r w).mem = s.mem := by cases r <;> rfl
@[simp] theorem State.setStk_joypad (s : State) (r : Stk16) (w : Word) : (s.setStk r w).joypad = s.joypad := by cases r <;> rfl
@[simp] theorem State.setStk_params (s : State) (r : Stk16) (w : Word) : (s.setStk r w).params = s.params := by cases r <;> rfl
@[simp] theorem State.setStk_env (s : State) (r : Stk16) (w : Word) : (s.setStk r w).env = s.env := by cases r <;> rfl
@[simp] theorem State.setStk_regs_sp (s : State) (r : Stk16) (w : Word) : (s.setStk r w).regs.sp = s.regs.sp := by cases r <;> rfl
@[simp] theorem State.setStk_regs_pc (s : State) (r : Stk16) (w : Word) : (s.setStk r w).regs.pc = s.regs.pc := by cases r <;> rfl

/-! ## setBc -/

@[simp] theorem State.setBc_ime (s : State) (w : Word) : (s.setBc w).ime = s.ime := rfl
@[simp] theorem State.setBc_eiPending (s : State) (w : Word) : (s.setBc w).eiPending = s.eiPending := rfl
@[simp] theorem State.setBc_halted (s : State) (w : Word) : (s.setBc w).halted = s.halted := rfl
@[simp] theorem State.setBc_fault (s : State) (w : Word) : (s.setBc w).fault = s.fault := rfl
@[simp] theorem State.setBc_hasBooted (s : State) (w : Word) : (s.setBc w).hasBooted = s.hasBooted := rfl
@[simp] theorem State.setBc_mbc (s : State) (w : Word) : (s.setBc w).mbc = s.mbc := rfl
@[simp] theorem State.setBc_dmaRemaining (s : State) (w : Word) : (s.setBc w).dmaRemaining = s.dmaRemaining := rfl
@[simp] theorem State.setBc_divAcc (s : State) (w : Word) : (s.setBc w).divAcc = s.divAcc := rfl
@[simp] theorem State.setBc_timaAcc (s : State) (w : Word) : (s.setBc w).timaAcc = s.timaAcc := rfl
@[simp] theorem State.setBc_io (s : State) (w : Word) : (s.setBc w).io = s.io := rfl
@[simp] theorem State.setBc_mem (s : State) (w : Word) : (s.setBc w).mem = s.mem := rfl
@[simp] theorem State.setBc_joypad (s : State) (w : Word) : (s.setBc w).joypad = s.joypad := rfl
@[simp] theorem State.setBc_params (s : State) (w : Word) : (s.setBc w).params = s.params := rfl
@[simp] theorem State.setBc_env (s : State) (w : Word) : (s.setBc w).env = s.env := rfl
@[simp] theorem State.setBc_regs_a (s : State) (w : Word) : (s.setBc w).regs.a = s.regs.a := rfl
@[simp] theorem State.setBc_regs_f (s : State) (w : Word) : (s.setBc w).regs.f = s.regs.f := rfl
@[simp] theorem State.setBc_regs_b (s : State) (w : Word) : (s.setBc w).regs.b = hiByte w := rfl
@[simp] theorem State.setBc_regs_c (s : State) (w : Word) : (s.setBc w).regs.c = loByte w := rfl
@[simp] theorem State.setBc_regs_d (s : State) (w : Word) : (s.setBc w).regs.d = s.regs.d := rfl
@[simp] theorem State.setBc_regs_e (s : State) (w : Word) : (s.setBc w).regs.e = s.regs.e := rfl
@[simp] theorem State.setBc_regs_h (s : State) (w : Word) : (s.setBc w).regs.h = s.regs.h := rfl
@[simp] theorem State.setBc_regs_l (s : State) (w : Word) : (s.setBc w).regs.l = s.regs.l := rfl
@[simp] theorem State.setBc_regs_sp (s : State) (w : Word) : (s.setBc w).regs.sp = s.regs.sp := rfl
@[simp] theorem State.setBc_regs_pc (s : State) (w : Word) : (s.setBc w).regs.pc = s.regs.pc := rfl

/-! ## setDe -/

@[simp] theorem State.setDe_ime (s : State) (w : Word) : (s.setDe w).ime = s.ime := rfl
@[simp] theorem State.setDe_eiPending (s : State) (w : Word) : (s.setDe w).eiPending = s.eiPending := rfl
@[simp] theorem State.setDe_halted (s : State) (w : Word) : (s.setDe w).halted = s.halted := rfl
@[simp] theorem State.setDe_fault (s : State) (w : Word) : (s.setDe w).fault = s.fault := rfl
@[simp] theorem State.setDe_hasBooted (s : State) (w : Word) : (s.setDe w).hasBooted = s.hasBooted := rfl
@[simp] theorem State.setDe_mbc (s : State) (w : Word) : (s.setDe w).mbc = s.mbc := rfl
@[simp] theorem State.setDe_dmaRemaining (s : State) (w : Word) : (s.setDe w).dmaRemaining = s.dmaRemaining := rfl
@[simp] theorem State.setDe_divAcc (s : State) (w : Word) : (s.setDe w).divAcc = s.divAcc := rfl
@[simp] theorem State.setDe_timaAcc (s : State) (w : Word) : (s.setDe w).timaAcc = s.timaAcc := rfl
@[simp] theorem State.setDe_io (s : State) (w : Word) : (s.setDe w).io = s.io := rfl
@[simp] theorem State.setDe_mem (s : State) (w : Word) : (s.setDe w).mem = s.mem := rfl
@[simp] theorem State.setDe_joypad (s : State) (w : Word) : (s.setDe w).joypad = s.joypad := rfl
@[simp] theorem State.setDe_params (s : State) (w : Word) : (s.setDe w).params = s.params := rfl
@[simp] theorem State.setDe_env (s : State) (w : Word) : (s.setDe w).env = s.env := rfl
@[simp] theorem State.setDe_regs_a (s : State) (w : Word) : (s.setDe w).regs.a = s.regs.a := rfl
@[simp] theorem State.setDe_regs_f (s : State) (w : Word) : (s.setDe w).regs.f = s.regs.f := rfl
@[simp] theorem State.setDe_regs_b (s : State) (w : Word) : (s.setDe w).regs.b = s.regs.b := rfl
@[simp] theorem State.setDe_regs_c (s : State) (w : Word) : (s.setDe w).regs.c = s.regs.c := rfl
@[simp] theorem State.setDe_regs_d (s : State) (w : Word) : (s.setDe w).regs.d = hiByte w := rfl
@[simp] theorem State.setDe_regs_e (s : State) (w : Word) : (s.setDe w).regs.e = loByte w := rfl
@[simp] theorem State.setDe_regs_h (s : State) (w : Word) : (s.setDe w).regs.h = s.regs.h := rfl
@[simp] theorem State.setDe_regs_l (s : State) (w : Word) : (s.setDe w).regs.l = s.regs.l := rfl
@[simp] theorem State.setDe_regs_sp (s : State) (w : Word) : (s.setDe w).regs.sp = s.regs.sp := rfl
@[simp] theorem State.setDe_regs_pc (s : State) (w : Word) : (s.setDe w).regs.pc = s.regs.pc := rfl

/-! ## setHl -/

@[simp] theorem State.setHl_ime (s : State) (w : Word) : (s.setHl w).ime = s.ime := rfl
@[simp] theorem State.setHl_eiPending (s : State) (w : Word) : (s.setHl w).eiPending = s.eiPending := rfl
@[simp] theorem State.setHl_halted (s : State) (w : Word) : (s.setHl w).halted = s.halted := rfl
@[simp] theorem State.setHl_fault (s : State) (w : Word) : (s.setHl w).fault = s.fault := rfl
@[simp] theorem State.setHl_hasBooted (s : State) (w : Word) : (s.setHl w).hasBooted = s.hasBooted := rfl
@[simp] theorem State.setHl_mbc (s : State) (w : Word) : (s.setHl w).mbc = s.mbc := rfl
@[simp] theorem State.setHl_dmaRemaining (s : State) (w : Word) : (s.setHl w).dmaRemaining = s.dmaRemaining := rfl
@[simp] theorem State.setHl_divAcc (s : State) (w : Word) : (s.setHl w).divAcc = s.divAcc := rfl
@[simp] theorem State.setHl_timaAcc (s : State) (w : Word) : (s.setHl w).timaAcc = s.timaAcc := rfl
@[simp] theorem State.setHl_io (s : State) (w : Word) : (s.setHl w).io = s.io := rfl
@[simp] theorem State.setHl_mem (s : State) (w : Word) : (s.setHl w).mem = s.mem := rfl
@[simp] theorem State.setHl_joypad (s : State) (w : Word) : (s.setHl w).joypad = s.joypad := rfl
@[simp] theorem State.setHl_params (s : State) (w : Word) : (s.setHl w).params = s.params := rfl
@[simp] theorem State.setHl_env (s : State) (w : Word) : (s.setHl w).env = s.env := rfl
@[simp] theorem State.setHl_regs_a (s : State) (w : Word) : (s.setHl w).regs.a = s.regs.a := rfl
@[simp] theorem State.setHl_regs_f (s : State) (w : Word) : (s.setHl w).regs.f = s.regs.f := rfl
@[simp] theorem State.setHl_regs_b (s : State) (w : Word) : (s.setHl w).regs.b = s.regs.b := rfl
@[simp] theorem State.setHl_regs_c (s : State) (w : Word) : (s.setHl w).regs.c = s.regs.c := rfl
@[simp] theorem State.setHl_regs_d (s : State) (w : Word) : (s.setHl w).regs.d = s.regs.d := rfl
@[simp] theorem State.setHl_regs_e (s : State) (w : Word) : (s.setHl w).regs.e = s.regs.e := rfl
@[simp] theorem State.setHl_regs_h (s : State) (w : Word) : (s.setHl w).regs.h = hiByte w := rfl
@[simp] theorem State.setHl_regs_l (s : State) (w : Word) : (s.setHl w).regs.l = loByte w := rfl
@[simp] theorem State.setHl_regs_sp (s : State) (w : Word) : (s.setHl w).regs.sp = s.regs.sp := rfl
@[simp] theorem State.setHl_regs_pc (s : State) (w : Word) : (s.setHl w).regs.pc = s.regs.pc := rfl

/-! ## setAf -/

@[simp] theorem State.setAf_ime (s : State) (w : Word) : (s.setAf w).ime = s.ime := rfl
@[simp] theorem State.setAf_eiPending (s : State) (w : Word) : (s.setAf w).eiPending = s.eiPending := rfl
@[simp] theorem State.setAf_halted (s : State) (w : Word) : (s.setAf w).halted = s.halted := rfl
@[simp] theorem State.setAf_fault (s : State) (w : Word) : (s.setAf w).fault = s.fault := rfl
@[simp] theorem State.setAf_hasBooted (s : State) (w : Word) : (s.setAf w).hasBooted = s.hasBooted := rfl
@[simp] theorem State.setAf_mbc (s : State) (w : Word) : (s.setAf w).mbc = s.mbc := rfl
@[simp] theorem State.setAf_dmaRemaining (s : State) (w : Word) : (s.setAf w).dmaRemaining = s.dmaRemaining := rfl
@[simp] theorem State.setAf_divAcc (s : State) (w : Word) : (s.setAf w).divAcc = s.divAcc := rfl
@[simp] theorem State.setAf_timaAcc (s : State) (w : Word) : (s.setAf w).timaAcc = s.timaAcc := rfl
@[simp] theorem State.setAf_io (s : State) (w : Word) : (s.setAf w).io = s.io := rfl
@[simp] theorem State.setAf_mem (s : State) (w : Word) : (s.setAf w).mem = s.mem := rfl
@[simp] theorem State.setAf_joypad (s : State) (w : Word) : (s.setAf w).joypad = s.joypad := rfl
@[simp] theorem State.setAf_params (s : State) (w : Word) : (s.setAf w).params = s.params := rfl
@[simp] theorem State.setAf_env (s : State) (w : Word) : (s.setAf w).env = s.env := rfl
@[simp] theorem State.setAf_regs_a (s : State) (w : Word) : (s.setAf w).regs.a = hiByte w := rfl
@[simp] theorem State.setAf_regs_f (s : State) (w : Word) : (s.setAf w).regs.f = loByte w &&& 0xF0 := rfl
@[simp] theorem State.setAf_regs_b (s : State) (w : Word) : (s.setAf w).regs.b = s.regs.b := rfl
@[simp] theorem State.setAf_regs_c (s : State) (w : Word) : (s.setAf w).regs.c = s.regs.c := rfl
@[simp] theorem State.setAf_regs_d (s : State) (w : Word) : (s.setAf w).regs.d = s.regs.d := rfl
@[simp] theorem State.setAf_regs_e (s : State) (w : Word) : (s.setAf w).regs.e = s.regs.e := rfl
@[simp] theorem State.setAf_regs_h (s : State) (w : Word) : (s.setAf w).regs.h = s.regs.h := rfl
@[simp] theorem State.setAf_regs_l (s : State) (w : Word) : (s.setAf w).regs.l = s.regs.l := rfl
@[simp] theorem State.setAf_regs_sp (s : State) (w : Word) : (s.setAf w).regs.sp = s.regs.sp := rfl
@[simp] theorem State.setAf_regs_pc (s : State) (w : Word) : (s.setAf w).regs.pc = s.regs.pc := rfl

/-! ## setSp -/

@[simp] theorem State.setSp_ime (s : State) (w : Word) : (s.setSp w).ime = s.ime := rfl
@[simp] theorem State.setSp_eiPending (s : State) (w : Word) : (s.setSp w).eiPending = s.eiPending := rfl
@[simp] theorem State.setSp_halted (s : State) (w : Word) : (s.setSp w).halted = s.halted := rfl
@[simp] theorem State.setSp_fault (s : State) (w : Word) : (s.setSp w).fault = s.fault := rfl
@[simp] theorem State.setSp_hasBooted (s : State) (w : Word) : (s.setSp w).hasBooted = s.hasBooted := rfl
@[simp] theorem State.setSp_mbc (s : State) (w : Word) : (s.setSp w).mbc = s.mbc := rfl
@[simp] theorem State.setSp_dmaRemaining (s : State) (w : Word) : (s.setSp w).dmaRemaining = s.dmaRemaining := rfl
@[simp] theorem State.setSp_divAcc (s : State) (w : Word) : (s.setSp w).divAcc = s.divAcc := rfl
@[simp] theorem State.setSp_timaAcc (s : State) (w : Word) : (s.setSp w).timaAcc = s.timaAcc := rfl
@[simp] theorem State.setSp_io (s : State) (w : Word) : (s.setSp w).io = s.io := rfl
@[simp] theorem State.setSp_mem (s : State) (w : Word) : (s.setSp w).mem = s.mem := rfl
@[simp] theorem State.setSp_joypad (s : State) (w : Word) : (s.setSp w).joypad = s.joypad := rfl
@[simp] theorem State.setSp_params (s : State) (w : Word) : (s.setSp w).params = s.params := rfl
@[simp] theorem State.setSp_env (s : State) (w : Word) : (s.setSp w).env = s.env := rfl
@[simp] theorem State.setSp_regs_a (s : State) (w : Word) : (s.setSp w).regs.a = s.regs.a := rfl
@[simp] theorem State.setSp_regs_f (s : State) (w : Word) : (s.setSp w).regs.f = s.regs.f := rfl
@[simp] theorem State.setSp_regs_b (s : State) (w : Word) : (s.setSp w).regs.b = s.regs.b := rfl
@[simp] theorem State.setSp_regs_c (s : State) (w : Word) : (s.setSp w).regs.c = s.regs.c := rfl
@[simp] theorem State.setSp_regs_d (s : State) (w : Word) : (s.setSp w).regs.d = s.regs.d := rfl
@[simp] theorem State.setSp_regs_e (s : State) (w : Word) : (s.setSp w).regs.e = s.regs.e := rfl
@[simp] theorem State.setSp_regs_h (s : State) (w : Word) : (s.setSp w).regs.h = s.regs.h := rfl
@[simp] theorem State.setSp_regs_l (s : State) (w : Word) : (s.setSp w).regs.l = s.regs.l := rfl
@[simp] theorem State.setSp_regs_sp (s : State) (w : Word) : (s.setSp w).regs.sp = w := rfl
@[simp] theorem State.setSp_regs_pc (s : State) (w : Word) : (s.setSp w).regs.pc = s.regs.pc := rfl

/-! ## setPc -/

@[simp] theorem State.setPc_ime (s : State) (w : Word) : (s.setPc w).ime = s.ime := rfl
@[simp] theorem State.setPc_eiPending (s : State) (w : Word) : (s.setPc w).eiPending = s.eiPending := rfl
@[simp] theorem State.setPc_halted (s : State) (w : Word) : (s.setPc w).halted = s.halted := rfl
@[simp] theorem State.setPc_fault (s : State) (w : Word) : (s.setPc w).fault = s.fault := rfl
@[simp] theorem State.setPc_hasBooted (s : State) (w : Word) : (s.setPc w).hasBooted = s.hasBooted := rfl
@[simp] theorem State.setPc_mbc (s : State) (w : Word) : (s.setPc w).mbc = s.mbc := rfl
@[simp] theorem State.setPc_dmaRemaining (s : State) (w : Word) : (s.setPc w).dmaRemaining = s.dmaRemaining := rfl
@[simp] theorem State.setPc_divAcc (s : State) (w : Word) : (s.setPc w).divAcc = s.divAcc := rfl
@[simp] theorem State.setPc_timaAcc (s : State) (w : Word) : (s.setPc w).timaAcc = s.timaAcc := rfl
@[simp] theorem State.setPc_io (s : State) (w : Word) : (s.setPc w).io = s.io := rfl
@[simp] theorem State.setPc_mem (s : State) (w : Word) : (s.setPc w).mem = s.mem := rfl
@[simp] theorem State.setPc_joypad (s : State) (w : Word) : (s.setPc w).joypad = s.joypad := rfl
@[simp] theorem State.setPc_params (s : State) (w : Word) : (s.setPc w).params = s.params := rfl
@[simp] theorem State.setPc_env (s : State) (w : Word) : (s.setPc w).env = s.env := rfl
@[simp] theorem State.setPc_regs_a (s : State) (w : Word) : (s.setPc w).regs.a = s.regs.a := rfl
@[simp] theorem State.setPc_regs_f (s : State) (w : Word) : (s.setPc w).regs.f = s.regs.f := rfl
@[simp] theorem State.setPc_regs_b (s : State) (w : Word) : (s.setPc w).regs.b = s.regs.b := rfl
@[simp] theorem State.setPc_regs_c (s : State) (w : Word) : (s.setPc w).regs.c = s.regs.c := rfl
@[simp] theorem State.setPc_regs_d (s : State) (w : Word) : (s.setPc w).regs.d = s.regs.d := rfl
@[simp] theorem State.setPc_regs_e (s : State) (w : Word) : (s.setPc w).regs.e = s.regs.e := rfl
@[simp] theorem State.setPc_regs_h (s : State) (w : Word) : (s.setPc w).regs.h = s.regs.h := rfl
@[simp] theorem State.setPc_regs_l (s : State) (w : Word) : (s.setPc w).regs.l = s.regs.l := rfl
@[simp] theorem State.setPc_regs_sp (s : State) (w : Word) : (s.setPc w).regs.sp = s.regs.sp := rfl
@[simp] theorem State.setPc_regs_pc (s : State) (w : Word) : (s.setPc w).regs.pc = w := rfl

/-! ## setFlags -/

@[simp] theorem State.setFlags_ime (s : State) (fl : Flags) : (s.setFlags fl).ime = s.ime := rfl
@[simp] theorem State.setFlags_eiPending (s : State) (fl : Flags) : (s.setFlags fl).eiPending = s.eiPending := rfl
@[simp] theorem State.setFlags_halted (s : State) (fl : Flags) : (s.setFlags fl).halted = s.halted := rfl
@[simp] theorem State.setFlags_fault (s : State) (fl : Flags) : (s.setFlags fl).fault = s.fault := rfl
@[simp] theorem State.setFlags_hasBooted (s : State) (fl : Flags) : (s.setFlags fl).hasBooted = s.hasBooted := rfl
@[simp] theorem State.setFlags_mbc (s : State) (fl : Flags) : (s.setFlags fl).mbc = s.mbc := rfl
@[simp] theorem State.setFlags_dmaRemaining (s : State) (fl : Flags) : (s.setFlags fl).dmaRemaining = s.dmaRemaining := rfl
@[simp] theorem State.setFlags_divAcc (s : State) (fl : Flags) : (s.setFlags fl).divAcc = s.divAcc := rfl
@[simp] theorem State.setFlags_timaAcc (s : State) (fl : Flags) : (s.setFlags fl).timaAcc = s.timaAcc := rfl
@[simp] theorem State.setFlags_io (s : State) (fl : Flags) : (s.setFlags fl).io = s.io := rfl
@[simp] theorem State.setFlags_mem (s : State) (fl : Flags) : (s.setFlags fl).mem = s.mem := rfl
@[simp] theorem State.setFlags_joypad (s : State) (fl : Flags) : (s.setFlags fl).joypad = s.joypad := rfl
@[simp] theorem State.setFlags_params (s : State) (fl : Flags) : (s.setFlags fl).params = s.params := rfl
@[simp] theorem State.setFlags_env (s : State) (fl : Flags) : (s.setFlags fl).env = s.env := rfl
@[simp] theorem State.setFlags_regs_a (s : State) (fl : Flags) : (s.setFlags fl).regs.a = s.regs.a := rfl
@[simp] theorem State.setFlags_regs_f (s : State) (fl : Flags) : (s.setFlags fl).regs.f = fl.toByte := rfl
@[simp] theorem State.setFlags_regs_b (s : State) (fl : Flags) : (s.setFlags fl).regs.b = s.regs.b := rfl
@[simp] theorem State.setFlags_regs_c (s : State) (fl : Flags) : (s.setFlags fl).regs.c = s.regs.c := rfl
@[simp] theorem State.setFlags_regs_d (s : State) (fl : Flags) : (s.setFlags fl).regs.d = s.regs.d := rfl
@[simp] theorem State.setFlags_regs_e (s : State) (fl : Flags) : (s.setFlags fl).regs.e = s.regs.e := rfl
@[simp] theorem State.setFlags_regs_h (s : State) (fl : Flags) : (s.setFlags fl).regs.h = s.regs.h := rfl
@[simp] theorem State.setFlags_regs_l (s : State) (fl : Flags) : (s.setFlags fl).regs.l = s.regs.l := rfl
@[simp] theorem State.setFlags_regs_sp (s : State) (fl : Flags) : (s.setFlags fl).regs.sp = s.regs.sp := rfl
@[simp] theorem State.setFlags_regs_pc (s : State) (fl : Flags) : (s.setFlags fl).regs.pc = s.regs.pc := rfl

/-! ## advance -/

@[simp] theorem State.advance_ime (s : State) (n : Nat) : (s.advance n).ime = s.ime := rfl
@[simp] theorem State.advance_eiPending (s : State) (n : Nat) : (s.advance n).eiPending = s.eiPending := rfl
@[simp] theorem State.advance_halted (s : State) (n : Nat) : (s.advance n).halted = s.halted := rfl
@[simp] theorem State.advance_fault (s : State) (n : Nat) : (s.advance n).fault = s.fault := rfl
@[simp] theorem State.advance_hasBooted (s : State) (n : Nat) : (s.advance n).hasBooted = s.hasBooted := rfl
@[simp] theorem State.advance_mbc (s : State) (n : Nat) : (s.advance n).mbc = s.mbc := rfl
@[simp] theorem State.advance_dmaRemaining (s : State) (n : Nat) : (s.advance n).dmaRemaining = s.dmaRemaining := rfl
@[simp] theorem State.advance_divAcc (s : State) (n : Nat) : (s.advance n).divAcc = s.divAcc := rfl
@[simp] theorem State.advance_timaAcc (s : State) (n : Nat) : (s.advance n).timaAcc = s.timaAcc := rfl
@[simp] theorem State.advance_io (s : State) (n : Nat) : (s.advance n).io = s.io := rfl
@[simp] theorem State.advance_mem (s : State) (n : Nat) : (s.advance n).mem = s.mem := rfl
@[simp] theorem State.advance_joypad (s : State) (n : Nat) : (s.advance n).joypad = s.joypad := rfl
@[simp] theorem State.advance_params (s : State) (n : Nat) : (s.advance n).params = s.params := rfl
@[simp] theorem State.advance_env (s : State) (n : Nat) : (s.advance n).env = s.env := rfl
@[simp] theorem State.advance_regs_a (s : State) (n : Nat) : (s.advance n).regs.a = s.regs.a := rfl
@[simp] theorem State.advance_regs_f (s : State) (n : Nat) : (s.advance n).regs.f = s.regs.f := rfl
@[simp] theorem State.advance_regs_b (s : State) (n : Nat) : (s.advance n).regs.b = s.regs.b := rfl
@[simp] theorem State.advance_regs_c (s : State) (n : Nat) : (s.advance n).regs.c = s.regs.c := rfl
@[simp] theorem State.advance_regs_d (s : State) (n : Nat) : (s.advance n).regs.d = s.regs.d := rfl
@[simp] theorem State.advance_regs_e (s : State) (n : Nat) : (s.advance n).regs.e = s.regs.e := rfl
@[simp] theorem State.advance_regs_h (s : State) (n : Nat) : (s.advance n).regs.h = s.regs.h := rfl
@[simp] theorem State.advance_regs_l (s : State) (n : Nat) : (s.advance n).regs.l = s.regs.l := rfl
@[simp] theorem State.advance_regs_sp (s : State) (n : Nat) : (s.advance n).regs.sp = s.regs.sp := rfl
@[simp] theorem State.advance_regs_pc (s : State) (n : Nat) : (s.advance n).regs.pc = s.nextPc n := rfl

/-! ## storeCell -/

@[simp] theorem State.storeCell_regs (s : State) (k : Nat) (v : Byte) : (s.storeCell k v).regs = s.regs := rfl
@[simp] theorem State.storeCell_ime (s : State) (k : Nat) (v : Byte) : (s.storeCell k v).ime = s.ime := rfl
@[simp] theorem State.storeCell_eiPending (s : State) (k : Nat) (v : Byte) : (s.storeCell k v).eiPending = s.eiPending := rfl
@[simp] theorem State.storeCell_halted (s : State) (k : Nat) (v : Byte) : (s.storeCell k v).halted = s.halted := rfl
@[simp] theorem State.storeCell_fault (s : State) (k : Nat) (v : Byte) : (s.storeCell k v).fault = s.fault := rfl
@[simp] theorem State.storeCell_hasBooted (s : State) (k : Nat) (v : Byte) : (s.storeCell k v).hasBooted = s.hasBooted := rfl
@[simp] theorem State.storeCell_mbc (s : State) (k : Nat) (v : Byte) : (s.storeCell k v).mbc = s.mbc := rfl
@[simp] theorem State.storeCell_dmaRemaining (s : State) (k : Nat) (v : Byte) : (s.storeCell k v).dmaRemaining = s.dmaRemaining := rfl
@[simp] theorem State.storeCell_divAcc (s : State) (k : Nat) (v : Byte) : (s.storeCell k v).divAcc = s.divAcc := rfl
@[simp] theorem State.storeCell_timaAcc (s : State) (k : Nat) (v : Byte) : (s.storeCell k v).timaAcc = s.timaAcc := rfl
@[simp] theorem State.storeCell_io (s : State) (k : Nat) (v : Byte) : (s.storeCell k v).io = s.io := rfl
@[simp] theorem State.storeCell_joypad (s : State) (k : Nat) (v : Byte) : (s.storeCell k v).joypad = s.joypad := rfl
@[simp] theorem State.storeCell_params (s : State) (k : Nat) (v : Byte) : (s.storeCell k v).params = s.params := rfl
@[simp] theorem State.storeCell_env (s : State) (k : Nat) (v : Byte) : (s.storeCell k v).env = s.env := rfl
@[simp] theorem State.storeCell_mem (s : State) (k : Nat) (v : Byte) : (s.storeCell k v).mem = s.mem.write k v := rfl

/-! ## Registers read after a register write -/

@[simp] theorem State.getR8_setR8_same (s : State) (r : Reg8) (v : Byte) : (s.setR8 r v).getR8 r = v := by
  cases r <;> rfl

theorem State.getR8_setR8_ne (s : State) (r r' : Reg8) (v : Byte) (h : r' ≠ r) :
    (s.setR8 r v).getR8 r' = s.getR8 r' := by
  cases r <;> cases r' <;> first | rfl | exact absurd rfl h

@[simp] theorem State.getR8_advance (s : State) (n : Nat) (r : Reg8) : (s.advance n).getR8 r = s.getR8 r := by
  cases r <;> rfl

@[simp] theorem State.getR8_setPc (s : State) (w : Word) (r : Reg8) : (s.setPc w).getR8 r = s.getR8 r := by
  cases r <;> rfl

@[simp] theorem State.getR8_setFlags (s : State) (fl : Flags) (r : Reg8) : (s.setFlags fl).getR8 r = s.getR8 r := by
  cases r <;> rfl

theorem wordOf_toNat (hi lo : Byte) : (wordOf hi lo).toNat = hi.toNat * 256 + lo.toNat := by
  have h : (wordOf hi lo).toNat = hi.toNat <<< 8 ||| lo.toNat := BitVec.toNat_append hi lo
  rw [h, ← Nat.shiftLeft_add_eq_or_of_lt lo.isLt, Nat.shiftLeft_eq]

theorem hiByte_toNat (w : Word) : (hiByte w).toNat = w.toNat / 256 := by
  have h : w.toNat < 65536 := w.isLt
  simp only [hiByte, BitVec.extractLsb'_toNat, Nat.shiftRight_eq_div_pow]
  omega

theorem loByte_toNat (w : Word) : (loByte w).toNat = w.toNat % 256 := by
  simp [loByte, BitVec.extractLsb'_toNat]

/-- A pair is its two halves. -/
@[simp] theorem wordOf_hiByte_loByte (w : Word) : wordOf (hiByte w) (loByte w) = w := by
  apply BitVec.eq_of_toNat_eq
  rw [wordOf_toNat, hiByte_toNat, loByte_toNat]
  omega

@[simp] theorem hiByte_wordOf (a b : Byte) : hiByte (wordOf a b) = a := by
  have h : b.toNat < 256 := b.isLt
  apply BitVec.eq_of_toNat_eq
  rw [hiByte_toNat, wordOf_toNat]
  omega

@[simp] theorem loByte_wordOf (a b : Byte) : loByte (wordOf a b) = b := by
  have h : b.toNat < 256 := b.isLt
  apply BitVec.eq_of_toNat_eq
  rw [loByte_toNat, wordOf_toNat]
  omega

@[simp] theorem State.getR16_setR16_same (s : State) (r : Reg16) (w : Word) : (s.setR16 r w).getR16 r = w := by
  cases r <;> first | rfl | exact wordOf_hiByte_loByte w

theorem State.getR16_setR16_ne (s : State) (r r' : Reg16) (w : Word) (h : r' ≠ r) :
    (s.setR16 r w).getR16 r' = s.getR16 r' := by
  cases r <;> cases r' <;> first | rfl | exact absurd rfl h

@[simp] theorem State.flags_setR8 (s : State) (r : Reg8) (v : Byte) : (s.setR8 r v).flags = s.flags := by
  cases r <;> rfl

@[simp] theorem State.flags_advance (s : State) (n : Nat) : (s.advance n).flags = s.flags := rfl

/-- F is written from four flags and read back as the same four. -/
@[simp] theorem Flags.ofByte_toByte (fl : Flags) : Flags.ofByte fl.toByte = fl := by
  obtain ⟨z, n, h, c⟩ := fl
  cases z <;> cases n <;> cases h <;> cases c <;> rfl

@[simp] theorem State.flags_setFlags (s : State) (fl : Flags) : (s.setFlags fl).flags = fl := Flags.ofByte_toByte fl

/-- F as four flags has a zero low nibble (10_state.md R24). -/
@[simp] theorem Flags.toByte_low (fl : Flags) : fl.toByte &&& 0x0F = 0 := by
  obtain ⟨z, n, h, c⟩ := fl
  cases z <;> cases n <;> cases h <;> cases c <;> rfl

end Sys2Proof.Machine
end

