-- ==== Sys2Proof/Laws/Bus.lean ====
section
/-! SUPPORT. What the memory accesses can do, said once per operation, and what they leave. -/

namespace Sys2Proof.Machine

/-! ## The address map -/

theorem romBank_lt (m : Mbc) : romBank m < 128 := by
  have h1 := m.bankHi.isLt
  have h2 := m.bankLo.isLt
  unfold romBank
  split <;> omega

theorem ramBank_lt (m : Mbc) : ramBank m < 4 := by
  have h1 := m.bankHi.isLt
  unfold ramBank
  split <;> omega

/-- A storage cell is never a byte of a ROM image. -/
theorem target_cell_lt {s : State} {a : Word} {k : Nat} (h : target s a = .cell k) : k < bootRomBase := by
  have hr := ramBank_lt s.mbc
  have ha : a.toNat < 65536 := a.isLt
  simp only [target] at h
  simp only [bootRomBase]
  repeat' split at h
  all_goals simp only [Target.cell.injEq, reduceCtorEq, extramBase] at h
  all_goals omega

/-- A ROM byte is never a storage cell. -/
theorem target_rom_ge {s : State} {a : Word} {k : Nat} (h : target s a = .rom k) : bootRomBase ≤ k := by
  simp only [target] at h
  simp only [bootRomBase]
  repeat' split at h
  all_goals simp only [Target.rom.injEq, reduceCtorEq, bootRomBase, cartRomBase] at h
  all_goals omega

/-! ## The OAM-DMA copy -/

theorem copyToOam_wf (v : Byte) (n : Nat) (s : State) (h : s.mem.wf = true) : (copyToOam v n s).wf = true := by
  induction n with
  | zero => exact h
  | succ n ih => exact Memory.wf_write _ _ _ ih

/-- Bytes outside the first `n` of OAM are not touched by a copy of `n` bytes. -/
theorem copyToOam_read (v : Byte) (n : Nat) (s : State) (k : Nat) (h : k < 0xFE00 ∨ 0xFE00 + n ≤ k) :
    (copyToOam v n s).read k = s.mem.read k := by
  induction n with
  | zero => rfl
  | succ n ih =>
    rw [← ih (by omega)]
    exact Memory.read_write_ne _ _ _ _ (by simp only [oamKey]; omega)

/-! ## Raw and gated writes -/

/-- Everything a raw write can do. -/
theorem rawWrite_cases (s : State) (a : Word) (v : Byte) :
    (a.toNat < 0x8000 ∧ rawWrite s a v = { s with mbc := mbcCommand s.mbc a v }) ∨
    rawWrite s a v = s ∨
    (∃ k, target s a = .cell k ∧ rawWrite s a v = s.storeCell k v) ∨
    (∃ r, target s a = .reg r ∧ rawWrite s a v = writeIoReg s r v) := by
  unfold rawWrite
  split
  · rename_i h; exact .inl ⟨h, rfl⟩
  · cases ht : target s a with
    | cell k => exact .inr (.inr (.inl ⟨k, rfl, rfl⟩))
    | reg r => exact .inr (.inr (.inr ⟨r, rfl, rfl⟩))
    | rom k => exact .inr (.inl rfl)
    | extramOff => exact .inr (.inl rfl)
    | unusable => exact .inr (.inl rfl)

/-- Everything a gated write can do. -/
theorem memWrite_cases (s : State) (a : Word) (v : Byte) :
    memWrite s a v = s ∨ (denied s a = false ∧ memWrite s a v = rawWrite s a v) := by
  unfold memWrite
  cases denied s a
  · exact .inr ⟨rfl, rfl⟩
  · exact .inl rfl

@[simp] theorem writeIoReg_regs (s : State) (r : IoReg) (v : Byte) : (writeIoReg s r v).regs = s.regs := by
  cases r <;> rfl

@[simp] theorem rawWrite_regs (s : State) (a : Word) (v : Byte) : (rawWrite s a v).regs = s.regs := by
  rcases rawWrite_cases s a v with ⟨-, h⟩ | h | ⟨k, -, h⟩ | ⟨r, -, h⟩ <;> rw [h] <;> simp

@[simp] theorem memWrite_regs (s : State) (a : Word) (v : Byte) : (memWrite s a v).regs = s.regs := by
  rcases memWrite_cases s a v with h | ⟨-, h⟩ <;> rw [h]
  exact rawWrite_regs s a v

@[simp] theorem writeIoReg_ime (s : State) (r : IoReg) (v : Byte) : (writeIoReg s r v).ime = s.ime := by
  cases r <;> rfl

@[simp] theorem rawWrite_ime (s : State) (a : Word) (v : Byte) : (rawWrite s a v).ime = s.ime := by
  rcases rawWrite_cases s a v with ⟨-, h⟩ | h | ⟨k, -, h⟩ | ⟨r, -, h⟩ <;> rw [h] <;> simp

@[simp] theorem memWrite_ime (s : State) (a : Word) (v : Byte) : (memWrite s a v).ime = s.ime := by
  rcases memWrite_cases s a v with h | ⟨-, h⟩ <;> rw [h]
  exact rawWrite_ime s a v

@[simp] theorem writeIoReg_eiPending (s : State) (r : IoReg) (v : Byte) : (writeIoReg s r v).eiPending = s.eiPending := by
  cases r <;> rfl

@[simp] theorem rawWrite_eiPending (s : State) (a : Word) (v : Byte) : (rawWrite s a v).eiPending = s.eiPending := by
  rcases rawWrite_cases s a v with ⟨-, h⟩ | h | ⟨k, -, h⟩ | ⟨r, -, h⟩ <;> rw [h] <;> simp

@[simp] theorem memWrite_eiPending (s : State) (a : Word) (v : Byte) : (memWrite s a v).eiPending = s.eiPending := by
  rcases memWrite_cases s a v with h | ⟨-, h⟩ <;> rw [h]
  exact rawWrite_eiPending s a v

@[simp] theorem writeIoReg_halted (s : State) (r : IoReg) (v : Byte) : (writeIoReg s r v).halted = s.halted := by
  cases r <;> rfl

@[simp] theorem rawWrite_halted (s : State) (a : Word) (v : Byte) : (rawWrite s a v).halted = s.halted := by
  rcases rawWrite_cases s a v with ⟨-, h⟩ | h | ⟨k, -, h⟩ | ⟨r, -, h⟩ <;> rw [h] <;> simp

@[simp] theorem memWrite_halted (s : State) (a : Word) (v : Byte) : (memWrite s a v).halted = s.halted := by
  rcases memWrite_cases s a v with h | ⟨-, h⟩ <;> rw [h]
  exact rawWrite_halted s a v

@[simp] theorem writeIoReg_fault (s : State) (r : IoReg) (v : Byte) : (writeIoReg s r v).fault = s.fault := by
  cases r <;> rfl

@[simp] theorem rawWrite_fault (s : State) (a : Word) (v : Byte) : (rawWrite s a v).fault = s.fault := by
  rcases rawWrite_cases s a v with ⟨-, h⟩ | h | ⟨k, -, h⟩ | ⟨r, -, h⟩ <;> rw [h] <;> simp

@[simp] theorem memWrite_fault (s : State) (a : Word) (v : Byte) : (memWrite s a v).fault = s.fault := by
  rcases memWrite_cases s a v with h | ⟨-, h⟩ <;> rw [h]
  exact rawWrite_fault s a v

@[simp] theorem writeIoReg_timaAcc (s : State) (r : IoReg) (v : Byte) : (writeIoReg s r v).timaAcc = s.timaAcc := by
  cases r <;> rfl

@[simp] theorem rawWrite_timaAcc (s : State) (a : Word) (v : Byte) : (rawWrite s a v).timaAcc = s.timaAcc := by
  rcases rawWrite_cases s a v with ⟨-, h⟩ | h | ⟨k, -, h⟩ | ⟨r, -, h⟩ <;> rw [h] <;> simp

@[simp] theorem memWrite_timaAcc (s : State) (a : Word) (v : Byte) : (memWrite s a v).timaAcc = s.timaAcc := by
  rcases memWrite_cases s a v with h | ⟨-, h⟩ <;> rw [h]
  exact rawWrite_timaAcc s a v

@[simp] theorem writeIoReg_joypad (s : State) (r : IoReg) (v : Byte) : (writeIoReg s r v).joypad = s.joypad := by
  cases r <;> rfl

@[simp] theorem rawWrite_joypad (s : State) (a : Word) (v : Byte) : (rawWrite s a v).joypad = s.joypad := by
  rcases rawWrite_cases s a v with ⟨-, h⟩ | h | ⟨k, -, h⟩ | ⟨r, -, h⟩ <;> rw [h] <;> simp

@[simp] theorem memWrite_joypad (s : State) (a : Word) (v : Byte) : (memWrite s a v).joypad = s.joypad := by
  rcases memWrite_cases s a v with h | ⟨-, h⟩ <;> rw [h]
  exact rawWrite_joypad s a v

@[simp] theorem writeIoReg_params (s : State) (r : IoReg) (v : Byte) : (writeIoReg s r v).params = s.params := by
  cases r <;> rfl

@[simp] theorem rawWrite_params (s : State) (a : Word) (v : Byte) : (rawWrite s a v).params = s.params := by
  rcases rawWrite_cases s a v with ⟨-, h⟩ | h | ⟨k, -, h⟩ | ⟨r, -, h⟩ <;> rw [h] <;> simp

@[simp] theorem memWrite_params (s : State) (a : Word) (v : Byte) : (memWrite s a v).params = s.params := by
  rcases memWrite_cases s a v with h | ⟨-, h⟩ <;> rw [h]
  exact rawWrite_params s a v

@[simp] theorem writeIoReg_env (s : State) (r : IoReg) (v : Byte) : (writeIoReg s r v).env = s.env := by
  cases r <;> rfl

@[simp] theorem rawWrite_env (s : State) (a : Word) (v : Byte) : (rawWrite s a v).env = s.env := by
  rcases rawWrite_cases s a v with ⟨-, h⟩ | h | ⟨k, -, h⟩ | ⟨r, -, h⟩ <;> rw [h] <;> simp

@[simp] theorem memWrite_env (s : State) (a : Word) (v : Byte) : (memWrite s a v).env = s.env := by
  rcases memWrite_cases s a v with h | ⟨-, h⟩ <;> rw [h]
  exact rawWrite_env s a v

/-! ## What every write keeps -/

/-- A property of states that a write of any kind keeps, given that its parts do. -/
theorem memWrite_keeps {P : State → Prop} {s : State} (a : Word) (v : Byte) (h : P s)
    (hmbc : ∀ m, P { s with mbc := m })
    (hcell : ∀ k, k < bootRomBase → P (s.storeCell k v))
    (hreg : ∀ r, P (writeIoReg s r v)) : P (memWrite s a v) := by
  rcases memWrite_cases s a v with h' | ⟨-, h'⟩ <;> rw [h']
  · exact h
  · rcases rawWrite_cases s a v with ⟨-, e⟩ | e | ⟨k, hk, e⟩ | ⟨r, -, e⟩ <;> rw [e]
    · exact hmbc _
    · exact h
    · exact hcell k (target_cell_lt hk)
    · exact hreg r

theorem writeIoReg_wf (s : State) (r : IoReg) (v : Byte) (h : s.mem.wf = true) : (writeIoReg s r v).mem.wf = true := by
  cases r with
  | dma =>
    simp only [writeIoReg, startDma]
    exact copyToOam_wf v 160 { s with io := { s.io with dma := v } } h
  | _ => exact h

/-- A write keeps the canonical form of storage. -/
theorem memWrite_wf (s : State) (a : Word) (v : Byte) (h : s.mem.wf = true) : (memWrite s a v).mem.wf = true :=
  memWrite_keeps (P := fun t => t.mem.wf = true) a v h (fun _ => h) (fun k _ => Memory.wf_write _ k v h)
    (fun r => writeIoReg_wf s r v h)

theorem writeIoReg_dmaRemaining (s : State) (r : IoReg) (v : Byte) (h : s.dmaRemaining ≤ 648) :
    (writeIoReg s r v).dmaRemaining ≤ 648 := by
  cases r with
  | dma => exact Nat.le_refl 648
  | _ => exact h

/-- A write leaves at most the full window (10_state.md R33). -/
theorem memWrite_dmaRemaining (s : State) (a : Word) (v : Byte) (h : s.dmaRemaining ≤ 648) :
    (memWrite s a v).dmaRemaining ≤ 648 :=
  memWrite_keeps (P := fun t => t.dmaRemaining ≤ 648) a v h (fun _ => h) (fun _ _ => h)
    (fun r => writeIoReg_dmaRemaining s r v h)

theorem writeIoReg_divAcc (s : State) (r : IoReg) (v : Byte) (h : s.divAcc < 256) : (writeIoReg s r v).divAcc < 256 := by
  cases r with
  | div => exact Nat.zero_lt_succ 255
  | _ => exact h

theorem memWrite_divAcc (s : State) (a : Word) (v : Byte) (h : s.divAcc < 256) : (memWrite s a v).divAcc < 256 :=
  memWrite_keeps (P := fun t => t.divAcc < 256) a v h (fun _ => h) (fun _ _ => h) (fun r => writeIoReg_divAcc s r v h)

/-- The boot latch is one-way (10_state.md R31). -/
theorem memWrite_hasBooted (s : State) (a : Word) (v : Byte) (h : s.hasBooted = true) :
    (memWrite s a v).hasBooted = true :=
  memWrite_keeps (P := fun t => t.hasBooted = true) a v h (fun _ => h) (fun _ _ => h)
    (fun r => by cases r <;> first | exact h | rfl)

/-- No write reaches a ROM image (20_memory.md R60). -/
theorem memWrite_rom (s : State) (a : Word) (v : Byte) (k : Nat) (hk : bootRomBase ≤ k) :
    (memWrite s a v).mem.read k = s.mem.read k :=
  memWrite_keeps (P := fun t => t.mem.read k = s.mem.read k) a v rfl (fun _ => rfl)
    (fun j hj => Memory.read_write_ne _ _ _ _ (by omega))
    (fun r => by
      cases r with
      | dma =>
        simp only [writeIoReg, startDma]
        exact copyToOam_read v 160 { s with io := { s.io with dma := v } } k
          (.inr (by simp only [bootRomBase] at hk; omega))
      | _ => rfl)

/-- A gated write that reaches a storage cell stores the byte there and changes nothing else. -/
theorem memWrite_cell {s : State} {a : Word} {k : Nat} (v : Byte) (hd : denied s a = false)
    (ht : target s a = .cell k) (ha : 0x8000 ≤ a.toNat) : memWrite s a v = s.storeCell k v := by
  simp [memWrite, hd, rawWrite, ht, Nat.not_lt.mpr ha]

/-- A gated read of a storage cell. -/
theorem memRead_cell {s : State} {a : Word} {k : Nat} (hd : denied s a = false) (ht : target s a = .cell k) :
    memRead s a = s.mem.read k := by
  simp [memRead, hd, rawRead, ht]

/-- The address map and the gates look at no register of the CPU and at no storage. -/
theorem target_congr {s t : State} (a : Word) (hb : t.hasBooted = s.hasBooted) (hm : t.mbc = s.mbc) :
    target t a = target s a := by
  simp [target, hb, hm]

theorem denied_congr {s t : State} (a : Word) (hd : t.dmaRemaining = s.dmaRemaining) (hl : t.io.lcdc = s.io.lcdc)
    (hs : t.io.stat = s.io.stat) : denied t a = denied s a := by
  simp [denied, dmaDenied, lcdDenied, lcdOn, lcdMode, hd, hl, hs]

/-! ## The register file plays no part -/

@[simp] theorem target_regs (s : State) (r : Regs) (a : Word) : target { s with regs := r } a = target s a := rfl

@[simp] theorem denied_regs (s : State) (r : Regs) (a : Word) : denied { s with regs := r } a = denied s a := rfl

@[simp] theorem rawRead_regs (s : State) (r : Regs) (a : Word) : rawRead { s with regs := r } a = rawRead s a := rfl

@[simp] theorem memRead_regs (s : State) (r : Regs) (a : Word) : memRead { s with regs := r } a = memRead s a := rfl

theorem copyToOam_regs (v : Byte) (n : Nat) (s : State) (r : Regs) :
    copyToOam v n { s with regs := r } = copyToOam v n s := by
  induction n with
  | zero => rfl
  | succ n ih => simp only [copyToOam, ih]; rfl

theorem startDma_regs (v : Byte) (s : State) (r : Regs) :
    startDma v { s with regs := r } = { startDma v s with regs := r } := by
  unfold startDma
  generalize 160 = n
  rw [State.mk.injEq]
  exact ⟨rfl, rfl, rfl, rfl, rfl, rfl, rfl, rfl, rfl, rfl, rfl,
    copyToOam_regs v n { s with io := { s.io with dma := v } } r, rfl, rfl, rfl⟩

/-- A gated write does the same whatever the register file holds. -/
theorem memWrite_setRegs (s : State) (r : Regs) (a : Word) (v : Byte) :
    memWrite { s with regs := r } a v = { memWrite s a v with regs := r } := by
  have ht : target { s with regs := r } a = target s a := rfl
  have hd : denied { s with regs := r } a = denied s a := rfl
  simp only [memWrite, rawWrite, hd, ht]
  split
  · rfl
  · split
    · rfl
    · cases target s a with
      | reg i =>
        cases i with
        | dma => exact startDma_regs v s r
        | _ => rfl
      | _ => rfl

end Sys2Proof.Machine
end

