-- ==== Sys2Proof/Laws/Decode.lean ====
section
/-! SUPPORT. The decoder on three bytes, as `step` uses it, agrees with the decoder on a list of bytes; what `costOf` and
`conditionOf` can answer. -/

namespace Sys2Proof

/-- A byte is one of 256 literals: the case analysis over opcodes. -/
theorem byte_cases {P : Byte → Prop} (h : ∀ n : Fin 256, P (BitVec.ofFin n)) (b : Byte) : P b := h b.toFin

/-- The bytes after an instruction's own do not matter: `decode` of three or more bytes gives what `decodeBytes` gives. -/
theorem decode_three (op b1 b2 : Byte) (rest : List Byte) :
    ∃ rest', decode (op :: b1 :: b2 :: rest) = .ok (decodeBytes op b1 b2, rest') := by
  revert b1 b2 rest
  apply byte_cases (b := op)
  intro n
  fin_cases n <;> exact fun _ _ _ => ⟨_, rfl⟩

/-- The only instruction `decode` can give for these bytes. -/
theorem decode_three_eq {op b1 b2 : Byte} {rest rest' : List Byte} {i : Instr}
    (h : decode (op :: b1 :: b2 :: rest) = .ok (i, rest')) : decodeBytes op b1 b2 = i := by
  obtain ⟨r, hr⟩ := decode_three op b1 b2 rest
  rw [hr] at h
  injection h with h
  exact (Prod.mk.inj h).1

/-! ## Costs and conditions -/

/-- With no row of CYCLES for it, an instruction costs what the default table says. -/
theorem costOf_of_no_row {p : Params} {i : Instr} (h : ∀ q ∈ p.cycles, q.row ≠ rowOf i) :
    costOf p i = (defaultBase (rowOf i), ((conditionOf i).map (·.2)).getD 0) := by
  have hn : p.cycles.find? (fun q => q.row == rowOf i) = none := by simpa using h
  simp [costOf, hn]

/-- The first row of CYCLES for an instruction is the one it costs. -/
theorem costOf_of_first_row {p : Params} {i : Instr} {before after : List CycleRow} {r : CycleRow}
    (hp : p.cycles = before ++ r :: after) (hb : ∀ q ∈ before, q.row ≠ rowOf i) (hr : r.row = rowOf i) :
    costOf p i = (r.base, r.penalty) := by
  have hs : p.cycles.find? (fun q => q.row == rowOf i) = some r := by
    rw [hp, List.find?_append, List.find?_eq_none.2 (by simpa using hb)]
    simp [hr]
  simp [costOf, hs]

@[simp] theorem conditionOf_mkJr (cc : Cond) (e8 : Byte) : conditionOf (mkJr cc e8) = some (cc, 4) := by cases cc <;> rfl

@[simp] theorem conditionOf_mkJp (cc : Cond) (a16 : Word) : conditionOf (mkJp cc a16) = some (cc, 4) := by cases cc <;> rfl

@[simp] theorem conditionOf_mkCall (cc : Cond) (a16 : Word) : conditionOf (mkCall cc a16) = some (cc, 12) := by
  cases cc <;> rfl

@[simp] theorem conditionOf_mkRet (cc : Cond) : conditionOf (mkRet cc) = some (cc, 12) := by cases cc <;> rfl

/-- An instruction under a condition is one of the four conditional transfers. -/
theorem conditionOf_cases {i : Instr} {cc : Cond} {n : Nat} (h : conditionOf i = some (cc, n)) :
    (∃ e8, i = mkJr cc e8) ∨ (∃ a16, i = mkJp cc a16) ∨ (∃ a16, i = mkCall cc a16) ∨ i = mkRet cc :=
  match i, h with
  | .jrNzE8 _, rfl => .inl ⟨_, rfl⟩
  | .jrZE8 _, rfl => .inl ⟨_, rfl⟩
  | .jrNcE8 _, rfl => .inl ⟨_, rfl⟩
  | .jrCE8 _, rfl => .inl ⟨_, rfl⟩
  | .jpNzA16 _, rfl => .inr (.inl ⟨_, rfl⟩)
  | .jpZA16 _, rfl => .inr (.inl ⟨_, rfl⟩)
  | .jpNcA16 _, rfl => .inr (.inl ⟨_, rfl⟩)
  | .jpCA16 _, rfl => .inr (.inl ⟨_, rfl⟩)
  | .callNzA16 _, rfl => .inr (.inr (.inl ⟨_, rfl⟩))
  | .callZA16 _, rfl => .inr (.inr (.inl ⟨_, rfl⟩))
  | .callNcA16 _, rfl => .inr (.inr (.inl ⟨_, rfl⟩))
  | .callCA16 _, rfl => .inr (.inr (.inl ⟨_, rfl⟩))
  | .retNz, rfl => .inr (.inr (.inr rfl))
  | .retZ, rfl => .inr (.inr (.inr rfl))
  | .retNc, rfl => .inr (.inr (.inr rfl))
  | .retC, rfl => .inr (.inr (.inr rfl))

end Sys2Proof
end

