-- ==== Sys2Proof/Laws/Ops.lean ====
section
/-! SUPPORT. What the shared operations of Machine/Ops.lean can do and what they leave, one lemma per operation and field. -/

namespace Sys2Proof.Machine

/-! ## The stack -/

@[simp] theorem push16_ime (v : Word) (s : State) : (push16 v s).ime = s.ime := by simp [push16]

@[simp] theorem push16_eiPending (v : Word) (s : State) : (push16 v s).eiPending = s.eiPending := by simp [push16]

@[simp] theorem push16_halted (v : Word) (s : State) : (push16 v s).halted = s.halted := by simp [push16]

@[simp] theorem push16_fault (v : Word) (s : State) : (push16 v s).fault = s.fault := by simp [push16]

@[simp] theorem push16_timaAcc (v : Word) (s : State) : (push16 v s).timaAcc = s.timaAcc := by simp [push16]

@[simp] theorem push16_joypad (v : Word) (s : State) : (push16 v s).joypad = s.joypad := by simp [push16]

@[simp] theorem push16_params (v : Word) (s : State) : (push16 v s).params = s.params := by simp [push16]

@[simp] theorem push16_env (v : Word) (s : State) : (push16 v s).env = s.env := by simp [push16]

@[simp] theorem push16_regs_a (v : Word) (s : State) : (push16 v s).regs.a = s.regs.a := by simp [push16]

@[simp] theorem push16_regs_f (v : Word) (s : State) : (push16 v s).regs.f = s.regs.f := by simp [push16]

@[simp] theorem push16_regs_b (v : Word) (s : State) : (push16 v s).regs.b = s.regs.b := by simp [push16]

@[simp] theorem push16_regs_c (v : Word) (s : State) : (push16 v s).regs.c = s.regs.c := by simp [push16]

@[simp] theorem push16_regs_d (v : Word) (s : State) : (push16 v s).regs.d = s.regs.d := by simp [push16]

@[simp] theorem push16_regs_e (v : Word) (s : State) : (push16 v s).regs.e = s.regs.e := by simp [push16]

@[simp] theorem push16_regs_h (v : Word) (s : State) : (push16 v s).regs.h = s.regs.h := by simp [push16]

@[simp] theorem push16_regs_l (v : Word) (s : State) : (push16 v s).regs.l = s.regs.l := by simp [push16]

@[simp] theorem push16_regs_pc (v : Word) (s : State) : (push16 v s).regs.pc = s.regs.pc := by simp [push16]

/-- SP moves down by two whether or not the bytes are stored (45_control_flow.md R255). -/
@[simp] theorem push16_regs_sp (v : Word) (s : State) : (push16 v s).regs.sp = s.regs.sp - 1 - 1 := by simp [push16]

@[simp] theorem push16_getR8 (v : Word) (s : State) (r : Reg8) : (push16 v s).getR8 r = s.getR8 r := by
  cases r <;> simp [State.getR8]

@[simp] theorem push16_flags (v : Word) (s : State) : (push16 v s).flags = s.flags := by simp [State.flags]

/-- A pop changes SP only. -/
theorem pop16_snd (s : State) : (pop16 s).2 = s.setSp (s.regs.sp + 1 + 1) := rfl

theorem pop16_fst (s : State) : (pop16 s).1 = wordOf (memRead s (s.regs.sp + 1)) (memRead s s.regs.sp) := rfl

/-- Whatever every write and every move of SP keeps, a push keeps. -/
theorem push16_keeps {P : State → Prop} (v : Word) {s : State} (h : P s) (hsp : ∀ t w, P t → P (t.setSp w))
    (hw : ∀ t a b, P t → P (memWrite t a b)) : P (push16 v s) :=
  hw _ _ _ (hsp _ _ (hw _ _ _ (hsp _ _ h)))

theorem push16_wf (v : Word) (s : State) (h : s.mem.wf = true) : (push16 v s).mem.wf = true :=
  push16_keeps (P := fun t => t.mem.wf = true) v h (fun _ _ h => h) (fun t a b h => memWrite_wf t a b h)

theorem push16_rom (v : Word) (s : State) (k : Nat) (hk : bootRomBase ≤ k) :
    (push16 v s).mem.read k = s.mem.read k :=
  push16_keeps (P := fun t => t.mem.read k = s.mem.read k) v rfl (fun _ _ h => h)
    (fun t a b h => (memWrite_rom t a b k hk).trans h)

/-! ## Interrupts -/

@[simp] theorem takeInterrupt_eiPending (i : IntSource) (s : State) : (takeInterrupt i s).eiPending = s.eiPending := by simp [takeInterrupt]

@[simp] theorem takeInterrupt_halted (i : IntSource) (s : State) : (takeInterrupt i s).halted = s.halted := by simp [takeInterrupt]

@[simp] theorem takeInterrupt_fault (i : IntSource) (s : State) : (takeInterrupt i s).fault = s.fault := by simp [takeInterrupt]

@[simp] theorem takeInterrupt_timaAcc (i : IntSource) (s : State) : (takeInterrupt i s).timaAcc = s.timaAcc := by simp [takeInterrupt]

@[simp] theorem takeInterrupt_joypad (i : IntSource) (s : State) : (takeInterrupt i s).joypad = s.joypad := by simp [takeInterrupt]

@[simp] theorem takeInterrupt_params (i : IntSource) (s : State) : (takeInterrupt i s).params = s.params := by simp [takeInterrupt]

@[simp] theorem takeInterrupt_env (i : IntSource) (s : State) : (takeInterrupt i s).env = s.env := by simp [takeInterrupt]

@[simp] theorem takeInterrupt_regs_a (i : IntSource) (s : State) : (takeInterrupt i s).regs.a = s.regs.a := by simp [takeInterrupt]

@[simp] theorem takeInterrupt_regs_f (i : IntSource) (s : State) : (takeInterrupt i s).regs.f = s.regs.f := by simp [takeInterrupt]

@[simp] theorem takeInterrupt_regs_b (i : IntSource) (s : State) : (takeInterrupt i s).regs.b = s.regs.b := by simp [takeInterrupt]

@[simp] theorem takeInterrupt_regs_c (i : IntSource) (s : State) : (takeInterrupt i s).regs.c = s.regs.c := by simp [takeInterrupt]

@[simp] theorem takeInterrupt_regs_d (i : IntSource) (s : State) : (takeInterrupt i s).regs.d = s.regs.d := by simp [takeInterrupt]

@[simp] theorem takeInterrupt_regs_e (i : IntSource) (s : State) : (takeInterrupt i s).regs.e = s.regs.e := by simp [takeInterrupt]

@[simp] theorem takeInterrupt_regs_h (i : IntSource) (s : State) : (takeInterrupt i s).regs.h = s.regs.h := by simp [takeInterrupt]

@[simp] theorem takeInterrupt_regs_l (i : IntSource) (s : State) : (takeInterrupt i s).regs.l = s.regs.l := by simp [takeInterrupt]

@[simp] theorem takeInterrupt_ime (i : IntSource) (s : State) : (takeInterrupt i s).ime = false := by simp [takeInterrupt]

@[simp] theorem takeInterrupt_regs_pc (i : IntSource) (s : State) : (takeInterrupt i s).regs.pc = i.vector := rfl

@[simp] theorem takeInterrupt_regs_sp (i : IntSource) (s : State) :
    (takeInterrupt i s).regs.sp = s.regs.sp - 1 - 1 := by simp [takeInterrupt]

/-- Whatever the clearing of the request and of IME, the push and the jump keep, the entry keeps. -/
theorem takeInterrupt_keeps {P : State → Prop} (i : IntSource) {s : State} (h : P s)
    (hif : ∀ t v, P t → P { t with io := { t.io with ifReg := v }, ime := false })
    (hpush : ∀ t w, P t → P (push16 w t)) (hpc : ∀ t w, P t → P (t.setPc w)) : P (takeInterrupt i s) :=
  hpc _ _ (hpush _ _ (hif _ _ h))

/-- Everything the scan of a running core can do. -/
theorem serviceInterrupts_cases (s : State) :
    serviceInterrupts s = s ∨ ∃ i, candidate s = some i ∧ s.ime = true ∧ serviceInterrupts s = takeInterrupt i s := by
  unfold serviceInterrupts
  cases hc : candidate s with
  | none => exact .inl rfl
  | some i =>
    cases hi : s.ime with
    | false => exact .inl rfl
    | true => exact .inr ⟨i, rfl, rfl, rfl⟩

/-- Everything the scan of a halted core can do. -/
theorem serviceHaltInterrupts_cases (s : State) :
    (candidate s = none ∧ serviceHaltInterrupts s = s) ∨
    (∃ i, candidate s = some i ∧ s.ime = false ∧ serviceHaltInterrupts s = { s with halted := false }) ∨
    ∃ i, candidate s = some i ∧ s.ime = true ∧
      serviceHaltInterrupts s = takeInterrupt i { s with halted := false } := by
  unfold serviceHaltInterrupts
  cases hc : candidate s with
  | none => exact .inl ⟨rfl, rfl⟩
  | some i =>
    cases hi : s.ime with
    | false => exact .inr (.inl ⟨i, rfl, rfl, by simp⟩)
    | true => exact .inr (.inr ⟨i, rfl, rfl, by simp⟩)

/-! ## Timer and divider -/

@[simp] theorem timerTick_regs (s : State) : (timerTick s).regs = s.regs := by
  unfold timerTick requestInterrupt
  split <;> rfl

@[simp] theorem timerTicks_regs (n : Nat) (s : State) : (timerTicks n s).regs = s.regs := by
  induction n generalizing s with
  | zero => rfl
  | succ n ih => exact (ih _).trans (timerTick_regs s)

@[simp] theorem stepTimer_regs (c : Nat) (s : State) : (stepTimer c s).regs = s.regs := by
  unfold stepTimer stepTima
  split
  · exact timerTicks_regs _ (stepDivider c s)
  · rfl

@[simp] theorem timerTick_ime (s : State) : (timerTick s).ime = s.ime := by
  unfold timerTick requestInterrupt
  split <;> rfl

@[simp] theorem timerTicks_ime (n : Nat) (s : State) : (timerTicks n s).ime = s.ime := by
  induction n generalizing s with
  | zero => rfl
  | succ n ih => exact (ih _).trans (timerTick_ime s)

@[simp] theorem stepTimer_ime (c : Nat) (s : State) : (stepTimer c s).ime = s.ime := by
  unfold stepTimer stepTima
  split
  · exact timerTicks_ime _ (stepDivider c s)
  · rfl

@[simp] theorem timerTick_eiPending (s : State) : (timerTick s).eiPending = s.eiPending := by
  unfold timerTick requestInterrupt
  split <;> rfl

@[simp] theorem timerTicks_eiPending (n : Nat) (s : State) : (timerTicks n s).eiPending = s.eiPending := by
  induction n generalizing s with
  | zero => rfl
  | succ n ih => exact (ih _).trans (timerTick_eiPending s)

@[simp] theorem stepTimer_eiPending (c : Nat) (s : State) : (stepTimer c s).eiPending = s.eiPending := by
  unfold stepTimer stepTima
  split
  · exact timerTicks_eiPending _ (stepDivider c s)
  · rfl

@[simp] theorem timerTick_halted (s : State) : (timerTick s).halted = s.halted := by
  unfold timerTick requestInterrupt
  split <;> rfl

@[simp] theorem timerTicks_halted (n : Nat) (s : State) : (timerTicks n s).halted = s.halted := by
  induction n generalizing s with
  | zero => rfl
  | succ n ih => exact (ih _).trans (timerTick_halted s)

@[simp] theorem stepTimer_halted (c : Nat) (s : State) : (stepTimer c s).halted = s.halted := by
  unfold stepTimer stepTima
  split
  · exact timerTicks_halted _ (stepDivider c s)
  · rfl

@[simp] theorem timerTick_fault (s : State) : (timerTick s).fault = s.fault := by
  unfold timerTick requestInterrupt
  split <;> rfl

@[simp] theorem timerTicks_fault (n : Nat) (s : State) : (timerTicks n s).fault = s.fault := by
  induction n generalizing s with
  | zero => rfl
  | succ n ih => exact (ih _).trans (timerTick_fault s)

@[simp] theorem stepTimer_fault (c : Nat) (s : State) : (stepTimer c s).fault = s.fault := by
  unfold stepTimer stepTima
  split
  · exact timerTicks_fault _ (stepDivider c s)
  · rfl

@[simp] theorem timerTick_hasBooted (s : State) : (timerTick s).hasBooted = s.hasBooted := by
  unfold timerTick requestInterrupt
  split <;> rfl

@[simp] theorem timerTicks_hasBooted (n : Nat) (s : State) : (timerTicks n s).hasBooted = s.hasBooted := by
  induction n generalizing s with
  | zero => rfl
  | succ n ih => exact (ih _).trans (timerTick_hasBooted s)

@[simp] theorem stepTimer_hasBooted (c : Nat) (s : State) : (stepTimer c s).hasBooted = s.hasBooted := by
  unfold stepTimer stepTima
  split
  · exact timerTicks_hasBooted _ (stepDivider c s)
  · rfl

@[simp] theorem timerTick_mbc (s : State) : (timerTick s).mbc = s.mbc := by
  unfold timerTick requestInterrupt
  split <;> rfl

@[simp] theorem timerTicks_mbc (n : Nat) (s : State) : (timerTicks n s).mbc = s.mbc := by
  induction n generalizing s with
  | zero => rfl
  | succ n ih => exact (ih _).trans (timerTick_mbc s)

@[simp] theorem stepTimer_mbc (c : Nat) (s : State) : (stepTimer c s).mbc = s.mbc := by
  unfold stepTimer stepTima
  split
  · exact timerTicks_mbc _ (stepDivider c s)
  · rfl

@[simp] theorem timerTick_dmaRemaining (s : State) : (timerTick s).dmaRemaining = s.dmaRemaining := by
  unfold timerTick requestInterrupt
  split <;> rfl

@[simp] theorem timerTicks_dmaRemaining (n : Nat) (s : State) : (timerTicks n s).dmaRemaining = s.dmaRemaining := by
  induction n generalizing s with
  | zero => rfl
  | succ n ih => exact (ih _).trans (timerTick_dmaRemaining s)

@[simp] theorem stepTimer_dmaRemaining (c : Nat) (s : State) : (stepTimer c s).dmaRemaining = s.dmaRemaining := by
  unfold stepTimer stepTima
  split
  · exact timerTicks_dmaRemaining _ (stepDivider c s)
  · rfl

@[simp] theorem timerTick_divAcc (s : State) : (timerTick s).divAcc = s.divAcc := by
  unfold timerTick requestInterrupt
  split <;> rfl

@[simp] theorem timerTicks_divAcc (n : Nat) (s : State) : (timerTicks n s).divAcc = s.divAcc := by
  induction n generalizing s with
  | zero => rfl
  | succ n ih => exact (ih _).trans (timerTick_divAcc s)

@[simp] theorem timerTick_timaAcc (s : State) : (timerTick s).timaAcc = s.timaAcc := by
  unfold timerTick requestInterrupt
  split <;> rfl

@[simp] theorem timerTicks_timaAcc (n : Nat) (s : State) : (timerTicks n s).timaAcc = s.timaAcc := by
  induction n generalizing s with
  | zero => rfl
  | succ n ih => exact (ih _).trans (timerTick_timaAcc s)

@[simp] theorem timerTick_mem (s : State) : (timerTick s).mem = s.mem := by
  unfold timerTick requestInterrupt
  split <;> rfl

@[simp] theorem timerTicks_mem (n : Nat) (s : State) : (timerTicks n s).mem = s.mem := by
  induction n generalizing s with
  | zero => rfl
  | succ n ih => exact (ih _).trans (timerTick_mem s)

@[simp] theorem stepTimer_mem (c : Nat) (s : State) : (stepTimer c s).mem = s.mem := by
  unfold stepTimer stepTima
  split
  · exact timerTicks_mem _ (stepDivider c s)
  · rfl

@[simp] theorem timerTick_joypad (s : State) : (timerTick s).joypad = s.joypad := by
  unfold timerTick requestInterrupt
  split <;> rfl

@[simp] theorem timerTicks_joypad (n : Nat) (s : State) : (timerTicks n s).joypad = s.joypad := by
  induction n generalizing s with
  | zero => rfl
  | succ n ih => exact (ih _).trans (timerTick_joypad s)

@[simp] theorem stepTimer_joypad (c : Nat) (s : State) : (stepTimer c s).joypad = s.joypad := by
  unfold stepTimer stepTima
  split
  · exact timerTicks_joypad _ (stepDivider c s)
  · rfl

@[simp] theorem timerTick_params (s : State) : (timerTick s).params = s.params := by
  unfold timerTick requestInterrupt
  split <;> rfl

@[simp] theorem timerTicks_params (n : Nat) (s : State) : (timerTicks n s).params = s.params := by
  induction n generalizing s with
  | zero => rfl
  | succ n ih => exact (ih _).trans (timerTick_params s)

@[simp] theorem stepTimer_params (c : Nat) (s : State) : (stepTimer c s).params = s.params := by
  unfold stepTimer stepTima
  split
  · exact timerTicks_params _ (stepDivider c s)
  · rfl

@[simp] theorem timerTick_env (s : State) : (timerTick s).env = s.env := by
  unfold timerTick requestInterrupt
  split <;> rfl

@[simp] theorem timerTicks_env (n : Nat) (s : State) : (timerTicks n s).env = s.env := by
  induction n generalizing s with
  | zero => rfl
  | succ n ih => exact (ih _).trans (timerTick_env s)

@[simp] theorem stepTimer_env (c : Nat) (s : State) : (stepTimer c s).env = s.env := by
  unfold stepTimer stepTima
  split
  · exact timerTicks_env _ (stepDivider c s)
  · rfl

/-- The divider's accumulator stays below 256 (10_state.md R34). -/
theorem stepTimer_divAcc (c : Nat) (s : State) : (stepTimer c s).divAcc = (s.divAcc + c) % 256 := by
  unfold stepTimer stepTima
  split
  · exact timerTicks_divAcc _ (stepDivider c s)
  · rfl

theorem timerPeriod_pos (tac : Byte) : 0 < timerPeriod tac := by
  unfold timerPeriod
  split <;> decide

theorem timerPeriod_le (tac : Byte) : timerPeriod tac ≤ 1024 := by
  unfold timerPeriod
  split <;> decide

/-- The timer's accumulator stays below its period (10_state.md R34). -/
theorem stepTimer_timaAcc_lt (c : Nat) (s : State) : (stepTimer c s).timaAcc < timerPeriod s.io.tac := by
  unfold stepTimer stepTima
  split
  · exact Nat.mod_lt _ (timerPeriod_pos _)
  · exact timerPeriod_pos _

/-! ## The environment -/

@[simp] theorem envEvent_regs (s : State) (ev : EnvEvent) : (envEvent s ev).regs = s.regs := by
  cases ev with
  | writeIo offset v => simp only [envEvent, envWriteIo]; split <;> rfl
  | _ => rfl

@[simp] theorem envEvents_regs (evs : List EnvEvent) (s : State) : (evs.foldl envEvent s).regs = s.regs := by
  induction evs generalizing s with
  | nil => rfl
  | cons e evs ih => exact (ih _).trans (envEvent_regs s e)

@[simp] theorem environmentStep_regs (s : State) : (environmentStep s).regs = s.regs := by
  unfold environmentStep
  split
  · rfl
  · exact envEvents_regs _ _

@[simp] theorem envEvent_ime (s : State) (ev : EnvEvent) : (envEvent s ev).ime = s.ime := by
  cases ev with
  | writeIo offset v => simp only [envEvent, envWriteIo]; split <;> rfl
  | _ => rfl

@[simp] theorem envEvents_ime (evs : List EnvEvent) (s : State) : (evs.foldl envEvent s).ime = s.ime := by
  induction evs generalizing s with
  | nil => rfl
  | cons e evs ih => exact (ih _).trans (envEvent_ime s e)

@[simp] theorem environmentStep_ime (s : State) : (environmentStep s).ime = s.ime := by
  unfold environmentStep
  split
  · rfl
  · exact envEvents_ime _ _

@[simp] theorem envEvent_eiPending (s : State) (ev : EnvEvent) : (envEvent s ev).eiPending = s.eiPending := by
  cases ev with
  | writeIo offset v => simp only [envEvent, envWriteIo]; split <;> rfl
  | _ => rfl

@[simp] theorem envEvents_eiPending (evs : List EnvEvent) (s : State) : (evs.foldl envEvent s).eiPending = s.eiPending := by
  induction evs generalizing s with
  | nil => rfl
  | cons e evs ih => exact (ih _).trans (envEvent_eiPending s e)

@[simp] theorem environmentStep_eiPending (s : State) : (environmentStep s).eiPending = s.eiPending := by
  unfold environmentStep
  split
  · rfl
  · exact envEvents_eiPending _ _

@[simp] theorem envEvent_halted (s : State) (ev : EnvEvent) : (envEvent s ev).halted = s.halted := by
  cases ev with
  | writeIo offset v => simp only [envEvent, envWriteIo]; split <;> rfl
  | _ => rfl

@[simp] theorem envEvents_halted (evs : List EnvEvent) (s : State) : (evs.foldl envEvent s).halted = s.halted := by
  induction evs generalizing s with
  | nil => rfl
  | cons e evs ih => exact (ih _).trans (envEvent_halted s e)

@[simp] theorem environmentStep_halted (s : State) : (environmentStep s).halted = s.halted := by
  unfold environmentStep
  split
  · rfl
  · exact envEvents_halted _ _

@[simp] theorem envEvent_fault (s : State) (ev : EnvEvent) : (envEvent s ev).fault = s.fault := by
  cases ev with
  | writeIo offset v => simp only [envEvent, envWriteIo]; split <;> rfl
  | _ => rfl

@[simp] theorem envEvents_fault (evs : List EnvEvent) (s : State) : (evs.foldl envEvent s).fault = s.fault := by
  induction evs generalizing s with
  | nil => rfl
  | cons e evs ih => exact (ih _).trans (envEvent_fault s e)

@[simp] theorem environmentStep_fault (s : State) : (environmentStep s).fault = s.fault := by
  unfold environmentStep
  split
  · rfl
  · exact envEvents_fault _ _

@[simp] theorem envEvent_hasBooted (s : State) (ev : EnvEvent) : (envEvent s ev).hasBooted = s.hasBooted := by
  cases ev with
  | writeIo offset v => simp only [envEvent, envWriteIo]; split <;> rfl
  | _ => rfl

@[simp] theorem envEvents_hasBooted (evs : List EnvEvent) (s : State) : (evs.foldl envEvent s).hasBooted = s.hasBooted := by
  induction evs generalizing s with
  | nil => rfl
  | cons e evs ih => exact (ih _).trans (envEvent_hasBooted s e)

@[simp] theorem environmentStep_hasBooted (s : State) : (environmentStep s).hasBooted = s.hasBooted := by
  unfold environmentStep
  split
  · rfl
  · exact envEvents_hasBooted _ _

@[simp] theorem envEvent_mbc (s : State) (ev : EnvEvent) : (envEvent s ev).mbc = s.mbc := by
  cases ev with
  | writeIo offset v => simp only [envEvent, envWriteIo]; split <;> rfl
  | _ => rfl

@[simp] theorem envEvents_mbc (evs : List EnvEvent) (s : State) : (evs.foldl envEvent s).mbc = s.mbc := by
  induction evs generalizing s with
  | nil => rfl
  | cons e evs ih => exact (ih _).trans (envEvent_mbc s e)

@[simp] theorem environmentStep_mbc (s : State) : (environmentStep s).mbc = s.mbc := by
  unfold environmentStep
  split
  · rfl
  · exact envEvents_mbc _ _

@[simp] theorem envEvent_dmaRemaining (s : State) (ev : EnvEvent) : (envEvent s ev).dmaRemaining = s.dmaRemaining := by
  cases ev with
  | writeIo offset v => simp only [envEvent, envWriteIo]; split <;> rfl
  | _ => rfl

@[simp] theorem envEvents_dmaRemaining (evs : List EnvEvent) (s : State) : (evs.foldl envEvent s).dmaRemaining = s.dmaRemaining := by
  induction evs generalizing s with
  | nil => rfl
  | cons e evs ih => exact (ih _).trans (envEvent_dmaRemaining s e)

@[simp] theorem environmentStep_dmaRemaining (s : State) : (environmentStep s).dmaRemaining = s.dmaRemaining := by
  unfold environmentStep
  split
  · rfl
  · exact envEvents_dmaRemaining _ _

@[simp] theorem envEvent_divAcc (s : State) (ev : EnvEvent) : (envEvent s ev).divAcc = s.divAcc := by
  cases ev with
  | writeIo offset v => simp only [envEvent, envWriteIo]; split <;> rfl
  | _ => rfl

@[simp] theorem envEvents_divAcc (evs : List EnvEvent) (s : State) : (evs.foldl envEvent s).divAcc = s.divAcc := by
  induction evs generalizing s with
  | nil => rfl
  | cons e evs ih => exact (ih _).trans (envEvent_divAcc s e)

@[simp] theorem environmentStep_divAcc (s : State) : (environmentStep s).divAcc = s.divAcc := by
  unfold environmentStep
  split
  · rfl
  · exact envEvents_divAcc _ _

@[simp] theorem envEvent_timaAcc (s : State) (ev : EnvEvent) : (envEvent s ev).timaAcc = s.timaAcc := by
  cases ev with
  | writeIo offset v => simp only [envEvent, envWriteIo]; split <;> rfl
  | _ => rfl

@[simp] theorem envEvents_timaAcc (evs : List EnvEvent) (s : State) : (evs.foldl envEvent s).timaAcc = s.timaAcc := by
  induction evs generalizing s with
  | nil => rfl
  | cons e evs ih => exact (ih _).trans (envEvent_timaAcc s e)

@[simp] theorem environmentStep_timaAcc (s : State) : (environmentStep s).timaAcc = s.timaAcc := by
  unfold environmentStep
  split
  · rfl
  · exact envEvents_timaAcc _ _

@[simp] theorem envEvent_params (s : State) (ev : EnvEvent) : (envEvent s ev).params = s.params := by
  cases ev with
  | writeIo offset v => simp only [envEvent, envWriteIo]; split <;> rfl
  | _ => rfl

@[simp] theorem envEvents_params (evs : List EnvEvent) (s : State) : (evs.foldl envEvent s).params = s.params := by
  induction evs generalizing s with
  | nil => rfl
  | cons e evs ih => exact (ih _).trans (envEvent_params s e)

@[simp] theorem environmentStep_params (s : State) : (environmentStep s).params = s.params := by
  unfold environmentStep
  split
  · rfl
  · exact envEvents_params _ _

@[simp] theorem envEvent_env (s : State) (ev : EnvEvent) : (envEvent s ev).env = s.env := by
  cases ev with
  | writeIo offset v => simp only [envEvent, envWriteIo]; split <;> rfl
  | _ => rfl

@[simp] theorem envEvents_env (evs : List EnvEvent) (s : State) : (evs.foldl envEvent s).env = s.env := by
  induction evs generalizing s with
  | nil => rfl
  | cons e evs ih => exact (ih _).trans (envEvent_env s e)

/-- Whatever each event keeps, a batch keeps. -/
theorem envEvents_keeps {P : State → Prop} (hev : ∀ t e, P t → P (envEvent t e)) (evs : List EnvEvent) {s : State}
    (h : P s) : P (evs.foldl envEvent s) := by
  induction evs generalizing s with
  | nil => exact h
  | cons e evs ih => exact ih (hev s e h)

theorem envEvent_wf (s : State) (ev : EnvEvent) (h : s.mem.wf = true) : (envEvent s ev).mem.wf = true := by
  cases ev with
  | writeIo offset v =>
    simp only [envEvent, envWriteIo]
    split
    · exact Memory.wf_write _ _ _ h
    · exact h
    · exact h
  | _ => exact h

/-- The environment writes no storage but plain bytes of the I/O block (60_exceptions.md R330). -/
theorem envEvent_read (s : State) (ev : EnvEvent) (k : Nat) (hk : k < 0xFF00 ∨ 0xFF7F < k) :
    (envEvent s ev).mem.read k = s.mem.read k := by
  cases ev with
  | writeIo offset v =>
    have := offset.isLt
    simp only [envEvent, envWriteIo]
    split
    · exact Memory.read_write_ne _ _ _ _ (by omega)
    · rfl
    · rfl
  | _ => rfl

end Sys2Proof.Machine
end

