-- ==== Sys2Proof/Laws/Exec.lean ====
section
/-! SUPPORT. The cycles of an instruction; everything an instruction and a step are made of, said once: a property that the shared writes keep is kept
by every instruction (`exec_keeps`), and one that the closing work of a step keeps as well by every step (`step_keeps`). -/

namespace Sys2Proof.Machine

/-! ## Conditions and cycles -/

/-- The condition table on the unpacked flags is the one on the bits of F. -/
theorem State.cond_eq_condHolds (s : State) (cc : Cond) : s.cond cc = condHolds cc s.regs.f := by
  have bit : ∀ (f : Byte) (n : Nat), f.getLsbD n = decide (f.toNat / 2 ^ n % 2 = 1) := fun f n =>
    Nat.testBit_eq_decide_div_mod_eq
  have nbit : ∀ m : Nat, (!decide (m % 2 = 1)) = decide (m % 2 = 0) := by
    intro m
    rcases Nat.mod_two_eq_zero_or_one m with h | h <;> simp [h]
  cases cc <;> simp only [State.cond, State.flags, Flags.ofByte, condHolds, bit, nbit] <;> rfl

theorem cyclesOf_conditional {i : Instr} {cc : Cond} {n : Nat} (h : conditionOf i = some (cc, n)) (s : State) :
    cyclesOf i s = if condHolds cc s.regs.f then (costOf s.params i).1 + (costOf s.params i).2 else (costOf s.params i).1 := by
  simp only [cyclesOf, h, State.cond_eq_condHolds]
  split <;> rfl

theorem cyclesOf_unconditional {i : Instr} (h : conditionOf i = none) (s : State) :
    cyclesOf i s = (costOf s.params i).1 := by simp only [cyclesOf, h]

/-! ## What every instruction and every step keeps -/

/-- A property of states that every write an instruction makes keeps, but for RETI's write of IME (which is named on its
own: it may end the wait of an EI, log entry 7). -/
structure KeptByExec (P : State → Prop) : Prop where
  setR8    : ∀ s r v, P s → P (s.setR8 r v)
  setR16   : ∀ s r w, P s → P (s.setR16 r w)
  setStk   : ∀ s r w, P s → P (s.setStk r w)
  setFlags : ∀ s fl, P s → P (s.setFlags fl)
  setSp    : ∀ s w, P s → P (s.setSp w)
  setPc    : ∀ s w, P s → P (s.setPc w)
  write    : ∀ s a v, P s → P (memWrite s a v)
  halt     : ∀ s, P s → P { s with halted := true }
  di       : ∀ s, P s → P { s with ime := false, eiPending := false }
  ei       : ∀ s, P s → s.params.eiDelay = false → P { s with ime := true }
  eiDelay  : ∀ s, P s → s.params.eiDelay = true → P { s with eiPending := !s.ime }
  fatal    : ∀ s k, P s → P (raiseFatal k s)

variable {P : State → Prop}

theorem KeptByExec.setOpd8 (h : KeptByExec P) (s : State) (x : Opd8) (v : Byte) (hs : P s) : P (s.setOpd8 x v) := by
  cases x with
  | reg r => exact h.setR8 _ _ _ hs
  | atHl => exact h.write _ _ _ hs

theorem KeptByExec.setHl (h : KeptByExec P) (s : State) (w : Word) (hs : P s) : P (s.setHl w) := h.setR16 s .hl w hs

theorem KeptByExec.push (h : KeptByExec P) (s : State) (w : Word) (hs : P s) : P (push16 w s) :=
  push16_keeps w hs (fun _ _ => h.setSp _ _) (fun _ _ _ => h.write _ _ _)

theorem KeptByExec.pop (h : KeptByExec P) (s : State) (hs : P s) : P (pop16 s).2 := h.setSp _ _ hs

theorem KeptByExec.extendedPage (h : KeptByExec P) (s : State) (op2 : Byte) (hs : P s) : P (Machine.extendedPage op2 s) := by
  unfold Machine.extendedPage
  split
  · exact h.setPc _ _ (h.setFlags _ _ (h.setOpd8 _ _ _ hs))
  · exact h.setPc _ _ (h.setFlags _ _ hs)
  · exact h.setPc _ _ (h.setOpd8 _ _ _ hs)
  · exact h.setPc _ _ (h.setOpd8 _ _ _ hs)

theorem KeptByExec.enableInterrupts (h : KeptByExec P) (s : State) (hs : P s) : P (Machine.enableInterrupts s) := by
  unfold Machine.enableInterrupts
  split
  · rename_i hd; exact h.eiDelay _ (h.setPc _ _ hs) hd
  · rename_i hd; exact h.ei _ (h.setPc _ _ hs) (by simpa using hd)

theorem KeptByExec.loadRegReg (h : KeptByExec P) (r q : Reg8) (s : State) (hs : P s) :
    P (Machine.loadRegReg r q s) := h.setPc _ _ (h.setR8 _ _ _ hs)

theorem KeptByExec.loadRegMem (h : KeptByExec P) (r : Reg8) (s : State) (hs : P s) :
    P (Machine.loadRegMem r s) := h.setPc _ _ (h.setR8 _ _ _ hs)

theorem KeptByExec.loadRegImm (h : KeptByExec P) (r : Reg8) (d : Byte) (s : State) (hs : P s) :
    P (Machine.loadRegImm r d s) := h.setPc _ _ (h.setR8 _ _ _ hs)

theorem KeptByExec.storeReg (h : KeptByExec P) (r : Reg8) (s : State) (hs : P s) :
    P (Machine.storeReg r s) := h.setPc _ _ (h.write _ _ _ hs)

theorem KeptByExec.storeImm (h : KeptByExec P) (d : Byte) (s : State) (hs : P s) :
    P (Machine.storeImm d s) := h.setPc _ _ (h.write _ _ _ hs)

theorem KeptByExec.storeA (h : KeptByExec P) (a : Word) (n : Nat) (s : State) (hs : P s) :
    P (Machine.storeA a n s) := h.setPc _ _ (h.write _ _ _ hs)

theorem KeptByExec.loadA (h : KeptByExec P) (a : Word) (n : Nat) (s : State) (hs : P s) :
    P (Machine.loadA a n s) := h.setPc _ _ (h.setR8 _ .a _ hs)

theorem KeptByExec.storeAStep (h : KeptByExec P) (d : Word) (s : State) (hs : P s) :
    P (Machine.storeAStep d s) := h.setPc _ _ (h.setHl _ _ (h.write _ _ _ hs))

theorem KeptByExec.loadAStep (h : KeptByExec P) (d : Word) (s : State) (hs : P s) :
    P (Machine.loadAStep d s) := h.setPc _ _ (h.setHl _ _ (h.setR8 _ .a _ hs))

theorem KeptByExec.load16Imm (h : KeptByExec P) (r : Reg16) (w : Word) (s : State) (hs : P s) :
    P (Machine.load16Imm r w s) := h.setPc _ _ (h.setR16 _ _ _ hs)

theorem KeptByExec.storeSp (h : KeptByExec P) (a : Word) (s : State) (hs : P s) :
    P (Machine.storeSp a s) := h.setPc _ _ (h.write _ _ _ (h.write _ _ _ hs))

theorem KeptByExec.loadSpHl (h : KeptByExec P) (s : State) (hs : P s) :
    P (Machine.loadSpHl s) := h.setPc _ _ (h.setSp _ _ hs)

theorem KeptByExec.loadHlSpDisp (h : KeptByExec P) (e : Byte) (s : State) (hs : P s) :
    P (Machine.loadHlSpDisp e s) := h.setPc _ _ (h.setFlags _ _ (h.setHl _ _ hs))

theorem KeptByExec.pushReg (h : KeptByExec P) (r : Stk16) (s : State) (hs : P s) :
    P (Machine.pushReg r s) := h.setPc _ _ (h.push _ _ hs)

theorem KeptByExec.popReg (h : KeptByExec P) (r : Stk16) (s : State) (hs : P s) :
    P (Machine.popReg r s) := h.setPc _ _ (h.setStk _ _ _ (h.pop _ hs))

theorem KeptByExec.aluOpd (h : KeptByExec P) (op : AluOp) (x : Opd8) (s : State) (hs : P s) :
    P (Machine.aluOpd op x s) := h.setPc _ _ (h.setFlags _ _ (h.setR8 _ .a _ hs))

theorem KeptByExec.aluImm (h : KeptByExec P) (op : AluOp) (d : Byte) (s : State) (hs : P s) :
    P (Machine.aluImm op d s) := h.setPc _ _ (h.setFlags _ _ (h.setR8 _ .a _ hs))

theorem KeptByExec.inc8 (h : KeptByExec P) (x : Opd8) (s : State) (hs : P s) :
    P (Machine.inc8 x s) := h.setPc _ _ (h.setFlags _ _ (h.setOpd8 _ _ _ hs))

theorem KeptByExec.dec8 (h : KeptByExec P) (x : Opd8) (s : State) (hs : P s) :
    P (Machine.dec8 x s) := h.setPc _ _ (h.setFlags _ _ (h.setOpd8 _ _ _ hs))

theorem KeptByExec.decimalAdjust (h : KeptByExec P) (s : State) (hs : P s) :
    P (Machine.decimalAdjust s) := h.setPc _ _ (h.setFlags _ _ (h.setR8 _ .a _ hs))

theorem KeptByExec.complementA (h : KeptByExec P) (s : State) (hs : P s) :
    P (Machine.complementA s) := h.setPc _ _ (h.setFlags _ _ (h.setR8 _ .a _ hs))

theorem KeptByExec.setCarry (h : KeptByExec P) (s : State) (hs : P s) :
    P (Machine.setCarry s) := h.setPc _ _ (h.setFlags _ _ hs)

theorem KeptByExec.complementCarry (h : KeptByExec P) (s : State) (hs : P s) :
    P (Machine.complementCarry s) := h.setPc _ _ (h.setFlags _ _ hs)

theorem KeptByExec.addHl (h : KeptByExec P) (r : Reg16) (s : State) (hs : P s) :
    P (Machine.addHl r s) := h.setPc _ _ (h.setFlags _ _ (h.setHl _ _ hs))

theorem KeptByExec.addSpDisp (h : KeptByExec P) (e : Byte) (s : State) (hs : P s) :
    P (Machine.addSpDisp e s) := h.setPc _ _ (h.setFlags _ _ (h.setSp _ _ hs))

theorem KeptByExec.inc16 (h : KeptByExec P) (r : Reg16) (s : State) (hs : P s) :
    P (Machine.inc16 r s) := h.setPc _ _ (h.setR16 _ _ _ hs)

theorem KeptByExec.dec16 (h : KeptByExec P) (r : Reg16) (s : State) (hs : P s) :
    P (Machine.dec16 r s) := h.setPc _ _ (h.setR16 _ _ _ hs)

theorem KeptByExec.rotateA (h : KeptByExec P) (op : RotOp) (s : State) (hs : P s) :
    P (Machine.rotateA op s) := h.setPc _ _ (h.setFlags _ _ (h.setR8 _ .a _ hs))

theorem KeptByExec.rotateOpd (h : KeptByExec P) (op : RotOp) (x : Opd8) (s : State) (hs : P s) :
    P (Machine.rotateOpd op x s) := h.setPc _ _ (h.setFlags _ _ (h.setOpd8 _ _ _ hs))

theorem KeptByExec.bitTest (h : KeptByExec P) (b : Octal) (x : Opd8) (s : State) (hs : P s) :
    P (Machine.bitTest b x s) := h.setPc _ _ (h.setFlags _ _ hs)

theorem KeptByExec.bitReset (h : KeptByExec P) (b : Octal) (x : Opd8) (s : State) (hs : P s) :
    P (Machine.bitReset b x s) := h.setPc _ _ (h.setOpd8 _ _ _ hs)

theorem KeptByExec.bitSet (h : KeptByExec P) (b : Octal) (x : Opd8) (s : State) (hs : P s) :
    P (Machine.bitSet b x s) := h.setPc _ _ (h.setOpd8 _ _ _ hs)

theorem KeptByExec.jumpAbs (h : KeptByExec P) (a : Word) (s : State) (hs : P s) :
    P (Machine.jumpAbs a s) := h.setPc _ _ hs

theorem KeptByExec.jumpHl (h : KeptByExec P) (s : State) (hs : P s) :
    P (Machine.jumpHl s) := h.setPc _ _ hs

theorem KeptByExec.jumpRel (h : KeptByExec P) (e : Byte) (s : State) (hs : P s) :
    P (Machine.jumpRel e s) := h.setPc _ _ hs

theorem KeptByExec.callAbs (h : KeptByExec P) (a : Word) (s : State) (hs : P s) :
    P (Machine.callAbs a s) := h.setPc _ _ (h.push _ _ hs)

theorem KeptByExec.returnNear (h : KeptByExec P) (s : State) (hs : P s) :
    P (Machine.returnNear s) := h.setPc _ _ (h.pop _ hs)

theorem KeptByExec.restart (h : KeptByExec P) (y : Octal) (s : State) (hs : P s) :
    P (Machine.restart y s) := h.setPc _ _ (h.push _ _ hs)

theorem KeptByExec.noOperation (h : KeptByExec P) (s : State) (hs : P s) :
    P (Machine.noOperation s) := h.setPc _ _ hs

theorem KeptByExec.enterHalt (h : KeptByExec P) (s : State) (hs : P s) :
    P (Machine.enterHalt s) := h.halt _ (h.setPc _ _ hs)

theorem KeptByExec.disableInterrupts (h : KeptByExec P) (s : State) (hs : P s) :
    P (Machine.disableInterrupts s) := h.di _ (h.setPc _ _ hs)

theorem KeptByExec.jumpAbsIf (h : KeptByExec P) (cc : Cond) (w : Word) (s : State) (hs : P s) :
    P (Machine.jumpAbsIf cc w s) := by
  unfold Machine.jumpAbsIf
  split <;> exact h.setPc _ _ hs

theorem KeptByExec.jumpRelIf (h : KeptByExec P) (cc : Cond) (e : Byte) (s : State) (hs : P s) :
    P (Machine.jumpRelIf cc e s) := by
  unfold Machine.jumpRelIf
  split <;> exact h.setPc _ _ hs

theorem KeptByExec.callAbsIf (h : KeptByExec P) (cc : Cond) (w : Word) (s : State) (hs : P s) :
    P (Machine.callAbsIf cc w s) := by
  unfold Machine.callAbsIf
  split
  · exact h.setPc _ _ (h.push _ _ hs)
  · exact h.setPc _ _ hs

theorem KeptByExec.returnIf (h : KeptByExec P) (cc : Cond) (s : State) (hs : P s) :
    P (Machine.returnIf cc s) := by
  unfold Machine.returnIf
  split
  · exact h.setPc _ _ (h.pop _ hs)
  · exact h.setPc _ _ hs

/-- What every write of an instruction keeps, every instruction keeps, and it has a next state. -/
theorem exec_keeps (h : KeptByExec P) (i : Instr) (s : State) (hs : P s)
    (hr : i = .reti → P (returnFromInterrupt s)) : ∃ t, exec i s = .next t ∧ P t := by
  cases i <;> refine ⟨_, rfl, ?_⟩
  all_goals with_reducible first
    | exact h.bitTest _ _ s hs
    | exact h.bitReset _ _ s hs
    | exact h.bitSet _ _ s hs
    | exact h.rotateOpd _ _ s hs
    | exact h.loadRegReg _ _ s hs
    | exact h.aluOpd _ _ s hs
    | exact h.loadRegMem _ s hs
    | exact h.loadRegImm _ _ s hs
    | exact h.storeReg _ s hs
    | exact h.storeImm _ s hs
    | exact h.storeA _ _ s hs
    | exact h.loadA _ _ s hs
    | exact h.storeAStep _ s hs
    | exact h.loadAStep _ s hs
    | exact h.load16Imm _ _ s hs
    | exact h.storeSp _ s hs
    | exact h.loadSpHl s hs
    | exact h.loadHlSpDisp _ s hs
    | exact h.pushReg _ s hs
    | exact h.popReg _ s hs
    | exact h.aluImm _ _ s hs
    | exact h.inc8 _ s hs
    | exact h.dec8 _ s hs
    | exact h.decimalAdjust s hs
    | exact h.complementA s hs
    | exact h.setCarry s hs
    | exact h.complementCarry s hs
    | exact h.addHl _ s hs
    | exact h.addSpDisp _ s hs
    | exact h.inc16 _ s hs
    | exact h.dec16 _ s hs
    | exact h.rotateA _ s hs
    | exact h.jumpAbs _ s hs
    | exact h.jumpHl s hs
    | exact h.jumpRel _ s hs
    | exact h.callAbs _ s hs
    | exact h.returnNear s hs
    | exact h.restart _ s hs
    | exact hr rfl
    | exact h.noOperation s hs
    | exact h.enterHalt s hs
    | exact h.disableInterrupts s hs
    | exact h.jumpAbsIf _ _ s hs
    | exact h.jumpRelIf _ _ s hs
    | exact h.callAbsIf _ _ s hs
    | exact h.returnIf _ s hs
    | exact h.enableInterrupts s hs
    | exact h.extendedPage s _ hs
    | exact h.fatal s _ hs

/-- Every instruction has a next state. -/
theorem exec_next (i : Instr) (s : State) : ∃ t, exec i s = .next t := by
  obtain ⟨t, h, -⟩ := exec_keeps (P := fun _ => True) (by constructor <;> intros <;> trivial) i s trivial fun _ => trivial
  exact ⟨t, h⟩

/-- A property of states that the closing work of a step keeps. -/
structure KeptByClose (P : State → Prop) : Prop where
  settle    : ∀ s t, P s → P t → P (settleEi s t)
  countdown : ∀ s c, P s → P (dmaCountdown c s)
  timer     : ∀ s c, P s → P (stepTimer c s)
  event     : ∀ s e, P s → P (envEvent s e)
  schedule  : ∀ s l, P s → P { s with env := l }
  wake      : ∀ s, P s → P { s with halted := false }
  accept    : ∀ s f, P s → P { s with io := { s.io with ifReg := f }, ime := false }

theorem environmentStep_keeps (h : KeptByClose P) (s : State) (hs : P s) : P (environmentStep s) := by
  unfold environmentStep
  split
  · exact hs
  · exact envEvents_keeps h.event _ (h.schedule _ _ hs)

theorem takeInterrupt_kept (h : KeptByExec P) (h' : KeptByClose P) (i : IntSource) (s : State) (hs : P s) :
    P (takeInterrupt i s) :=
  takeInterrupt_keeps i hs (fun _ _ => h'.accept _ _) (fun _ _ => h.push _ _) (fun _ _ => h.setPc _ _)

theorem closeStep_keeps (h : KeptByExec P) (h' : KeptByClose P) (c : Nat) (s : State) (hs : P s) :
    P (closeStep c s) := by
  have hu := environmentStep_keeps h' _ (h'.timer _ c (h'.countdown _ c hs))
  unfold closeStep
  simp only
  split
  · rcases serviceHaltInterrupts_cases (environmentStep (stepTimer c (dmaCountdown c s))) with
      ⟨-, e⟩ | ⟨i, -, -, e⟩ | ⟨i, -, -, e⟩ <;> rw [e]
    · exact hu
    · exact h'.wake _ hu
    · exact takeInterrupt_kept h h' i _ (h'.wake _ hu)
  · rcases serviceInterrupts_cases (environmentStep (stepTimer c (dmaCountdown c s))) with e | ⟨i, -, -, e⟩ <;> rw [e]
    · exact hu
    · exact takeInterrupt_kept h h' i _ hu

/-- What every instruction and the closing work keep, every step keeps. -/
theorem step_keeps (h : KeptByExec P) (hr : ∀ u, P u → P (returnFromInterrupt u)) (h' : KeptByClose P) {s t : State}
    (hs : P s) (hst : step s = .next t) : P t := by
  unfold step at hst
  split at hst
  · cases hst
  · split at hst
    · cases hst; exact closeStep_keeps h h' _ _ hs
    · obtain ⟨u, hu, hPu⟩ := exec_keeps h (decodeAt s s.regs.pc) s hs fun _ => hr s hs
      rw [hu] at hst
      cases hst
      unfold finishInstr
      split
      · exact hPu
      · exact closeStep_keeps h h' _ _ (h'.settle _ _ hs hPu)

end Sys2Proof.Machine
end

