-- ==== Sys2Proof/Tests/Slice0.lean ====
section
/-! SUPPORT. The model's own tests. Expected values are spec/95_test_vectors.md's (the part named in each heading), not the
model's; each is one step, one operation or one decoding. The last part shows, for every obligation with hypotheses, a
concrete state and operands that meet them. -/

namespace Sys2Proof.Tests

open Sys2Proof Sys2Proof.Machine

/-! ## Helpers: the start state of part 0 of 95_test_vectors.md -/

/-- Every register 0, PC = 0x0100. -/
def r0 : Regs := { a := 0, f := 0, b := 0, c := 0, d := 0, e := 0, h := 0, l := 0, sp := 0, pc := 0x0100 }

/-- Bytes at successive keys. -/
def bytesAt (k : Nat) (bs : List Byte) : List Host.Cell :=
  match bs with
  | [] => []
  | b :: t => (k, b) :: bytesAt (k + 1) t

/-- Storage with these cells. -/
def cells (cs : List Host.Cell) : Memory := cs.foldl (fun m c => m.write c.1 c.2) []

/-- The start state with registers `r`, the instruction bytes `bs` at PC in cartridge bank 0, and more cells `ram`. -/
def st (r : Regs) (bs : List Byte) (ram : List Host.Cell) : State :=
  { State.reset with regs := r, hasBooted := true, mem := cells (ram ++ bytesAt (cartRomBase + r.pc.toNat) bs) }

/-- The state a result goes on in. -/
def nextOf (o : Result) : Option State :=
  match o with
  | .next t => some t
  | .fault _ => none
  | .refused _ => none

/-- The registers after one step. -/
def regsAfter (s : State) : Option Regs := (nextOf (step s)).map (·.regs)

/-- What is read at `a` after one step. -/
def readAfter (s : State) (a : Word) : Option Byte := (nextOf (step s)).map (memRead · a)

/-! ## Decoding (part 3.1), words written out from the encoding lines, one or more of each family -/

theorem test_decode_ld_r_r : decode [0b01111000] = .ok (.ldAB, []) := by decide

theorem test_decode_ld_h_athl : decode [0b01100110] = .ok (.ldHAtHl, []) := by decide

theorem test_decode_ld_athl_d8 : decode [0b00110110, 0x7F] = .ok (.ldAtHlD8 0x7F, []) := by decide

theorem test_decode_ld_a_atc : decode [0b11110010] = .ok (.ldAAtC, []) := by decide

theorem test_decode_ldh_store : decode [0b11100000, 0x46] = .ok (.ldhAtA8A 0x46, []) := by decide

theorem test_decode_ld_a_a16 : decode [0b11111010, 0x00, 0x40] = .ok (.ldAAtA16 0x4000, []) := by decide

theorem test_decode_ld_rr_d16 : decode [0b00100001, 0x34, 0x12] = .ok (.ldHlD16 0x1234, []) := by decide

theorem test_decode_ld_a16_sp : decode [0b00001000, 0x00, 0xC1] = .ok (.ldAtA16Sp 0xC100, []) := by decide

theorem test_decode_push_af : decode [0b11110101] = .ok (.pushAf, []) := by decide

theorem test_decode_ldhl : decode [0b11111000, 0x08] = .ok (.ldhlSpE8 0x08, []) := by decide

theorem test_decode_alu_d8 : decode [0b11011110, 0x2A] = .ok (.sbcAD8 0x2A, []) := by decide

theorem test_decode_alu_r : decode [0b10101111] = .ok (.xorA, []) := by decide

theorem test_decode_inc_athl : decode [0b00110100] = .ok (.incAtHl, []) := by decide

theorem test_decode_add_hl : decode [0b00111001] = .ok (.addHlSp, []) := by decide

theorem test_decode_dec_rr : decode [0b00011011] = .ok (.decDe, []) := by decide

theorem test_decode_rrca : decode [0b00001111] = .ok (.rrca, []) := by decide

theorem test_decode_cb_rot : decode [0xCB, 0b00111110] = .ok (.srlAtHl, []) := by decide

theorem test_decode_cb_bit : decode [0xCB, 0b01111100] = .ok (.bit7H, []) := by decide

theorem test_decode_cb_set : decode [0xCB, 0b11001011] = .ok (.set1E, []) := by decide

theorem test_decode_jr_cc : decode [0b00100000, 0xFB] = .ok (.jrNzE8 0xFB, []) := by decide

theorem test_decode_jp : decode [0b11000011, 0x50, 0x01] = .ok (.jpA16 0x0150, []) := by decide

theorem test_decode_call_cc : decode [0b11000100, 0x00, 0x02] = .ok (.callNzA16 0x0200, []) := by decide

theorem test_decode_ret_cc : decode [0b11000000] = .ok (.retNz, []) := by decide

theorem test_decode_rst : decode [0b11101111] = .ok (.rst28, []) := by decide

theorem test_decode_halt : decode [0b01110110] = .ok (.halt, []) := by decide

theorem test_decode_stop : decode [0b00010000, 0x00] = .ok (.stop 0x00, []) := by decide

theorem test_decode_undefined : decode [0b11111101] = .ok (.undefined 0xFD, []) := by decide

/-- A byte after the instruction is left over; an instruction cut short and an empty list are rejected by name. -/
theorem test_decode_rest : decode [0x00, 0x3E] = .ok (.nop, [0x3E]) := by decide

theorem test_decode_truncated : (decode [0xC3, 0x50]).toOption = none ∧ (decode []).toOption = none := by decide

/-! ## WellFormed smoke: each ill-formed term is refused -/

theorem test_illformed_undefined : (Instr.undefined 0x00).wellFormed = false := by decide

theorem test_illformed_prefix : (Instr.prefixCb 0x7C).wellFormed = false := by decide

theorem test_wellformed_undefined : (Instr.undefined 0xD3).wellFormed = true := by decide

/-! ## 8-bit loads (part 3.2) -/

theorem test_ld_a_b :
    regsAfter (st { r0 with b := 0x5A } [0x78] []) = some { r0 with b := 0x5A, a := 0x5A, pc := 0x0101 } := by decide

theorem test_ld_b_b :
    regsAfter (st { r0 with b := 0x5A } [0x40] []) = some { r0 with b := 0x5A, pc := 0x0101 } := by decide

theorem test_ld_a_athl :
    regsAfter (st { r0 with h := 0xC0, l := 0x00 } [0x7E] [(0xC000, 0x12)]) = some { r0 with h := 0xC0, l := 0x00, a := 0x12, pc := 0x0101 } := by decide

theorem test_ld_h_athl :
    regsAfter (st { r0 with h := 0xC0, l := 0x00 } [0x66] [(0xC000, 0x12)]) = some { r0 with h := 0x12, l := 0x00, pc := 0x0101 } := by decide

theorem test_ld_athl_a_echo :
    regsAfter (st { r0 with h := 0xC1, l := 0x23, a := 0x99 } [0x77] []) = some { r0 with h := 0xC1, l := 0x23, a := 0x99, pc := 0x0101 } ∧
    readAfter (st { r0 with h := 0xC1, l := 0x23, a := 0x99 } [0x77] []) 0xC123 = some 0x99 ∧
    readAfter (st { r0 with h := 0xC1, l := 0x23, a := 0x99 } [0x77] []) 0xE123 = some 0x99 := by decide

theorem test_ld_athl_l :
    regsAfter (st { r0 with h := 0xC1, l := 0x23 } [0x75] []) = some { r0 with h := 0xC1, l := 0x23, pc := 0x0101 } ∧
    readAfter (st { r0 with h := 0xC1, l := 0x23 } [0x75] []) 0xC123 = some 0x23 := by decide

theorem test_ld_a_d8 :
    regsAfter (st r0 [0x3E, 0x42] []) = some { r0 with a := 0x42, pc := 0x0102 } := by decide

theorem test_ld_athl_d8 :
    regsAfter (st { r0 with h := 0xFF, l := 0x80 } [0x36, 0x7F] []) = some { r0 with h := 0xFF, l := 0x80, pc := 0x0102 } ∧
    readAfter (st { r0 with h := 0xFF, l := 0x80 } [0x36, 0x7F] []) 0xFF80 = some 0x7F := by decide

theorem test_ld_athl_d8_rom :
    regsAfter (st { r0 with h := 0x01, l := 0x50 } [0x36, 0x55] []) = some { r0 with h := 0x01, l := 0x50, pc := 0x0102 } ∧
    readAfter (st { r0 with h := 0x01, l := 0x50 } [0x36, 0x55] []) 0x0150 = some 0xFF := by decide

theorem test_ld_atbc_a :
    regsAfter (st { r0 with b := 0xC0, c := 0x10, a := 0x01 } [0x02] []) = some { r0 with b := 0xC0, c := 0x10, a := 0x01, pc := 0x0101 } ∧
    readAfter (st { r0 with b := 0xC0, c := 0x10, a := 0x01 } [0x02] []) 0xC010 = some 0x01 := by decide

theorem test_ld_atde_a :
    regsAfter (st { r0 with d := 0x80, e := 0x00, a := 0xAA } [0x12] []) = some { r0 with d := 0x80, e := 0x00, a := 0xAA, pc := 0x0101 } ∧
    readAfter (st { r0 with d := 0x80, e := 0x00, a := 0xAA } [0x12] []) 0x8000 = some 0xAA := by decide

theorem test_ld_a_atbc :
    regsAfter (st { r0 with b := 0xC0, c := 0x10 } [0x0A] [(0xC010, 0x33)]) = some { r0 with b := 0xC0, c := 0x10, a := 0x33, pc := 0x0101 } := by decide

theorem test_ld_a_atde :
    regsAfter (st { r0 with d := 0x01, e := 0x04 } [0x1A] [(cartRomBase + 0x104, 0xCE)]) = some { r0 with d := 0x01, e := 0x04, a := 0xCE, pc := 0x0101 } := by decide

theorem test_ld_athl_inc_a :
    regsAfter (st { r0 with h := 0xC0, l := 0x00, a := 0x07 } [0x22] []) = some { r0 with h := 0xC0, l := 0x01, a := 0x07, pc := 0x0101 } ∧
    readAfter (st { r0 with h := 0xC0, l := 0x00, a := 0x07 } [0x22] []) 0xC000 = some 0x07 := by decide

theorem test_ld_athl_inc_a_wrap :
    regsAfter (st { r0 with h := 0xFF, l := 0xFF, a := 0x1F } [0x22] []) = some { r0 with h := 0x00, l := 0x00, a := 0x1F, pc := 0x0101 } ∧
    readAfter (st { r0 with h := 0xFF, l := 0xFF, a := 0x1F } [0x22] []) 0xFFFF = some 0x1F := by decide

theorem test_ld_athl_dec_a :
    regsAfter (st { r0 with h := 0x9F, l := 0xFF } [0x32] [(0x9FFF, 0x55)]) = some { r0 with h := 0x9F, l := 0xFE, pc := 0x0101 } ∧
    readAfter (st { r0 with h := 0x9F, l := 0xFF } [0x32] [(0x9FFF, 0x55)]) 0x9FFF = some 0x00 := by decide

theorem test_ld_a_athl_inc :
    regsAfter (st { r0 with h := 0xC0, l := 0x00 } [0x2A] [(0xC000, 0x55)]) = some { r0 with h := 0xC0, l := 0x01, a := 0x55, pc := 0x0101 } := by decide

theorem test_ld_a_athl_dec_wrap :
    regsAfter (st { r0 with h := 0x00, l := 0x00 } [0x3A] []) = some { r0 with h := 0xFF, l := 0xFF, a := 0xFF, pc := 0x0101 } := by decide

theorem test_ldh_a8_a :
    regsAfter (st { r0 with a := 0x3C } [0xE0, 0x80] []) = some { r0 with a := 0x3C, pc := 0x0102 } ∧
    readAfter (st { r0 with a := 0x3C } [0xE0, 0x80] []) 0xFF80 = some 0x3C := by decide

theorem test_ld_atc_a :
    regsAfter (st { r0 with c := 0x81, a := 0x10 } [0xE2] []) = some { r0 with c := 0x81, a := 0x10, pc := 0x0101 } ∧
    readAfter (st { r0 with c := 0x81, a := 0x10 } [0xE2] []) 0xFF81 = some 0x10 := by decide

theorem test_ld_a16_a :
    regsAfter (st { r0 with a := 0x77 } [0xEA, 0x00, 0xC0] []) = some { r0 with a := 0x77, pc := 0x0103 } ∧
    readAfter (st { r0 with a := 0x77 } [0xEA, 0x00, 0xC0] []) 0xC000 = some 0x77 := by decide

theorem test_ldh_a_a8 :
    (nextOf (step { st r0 [0xF0, 0x0F] [] with io := { State.reset.io with ifReg := 0x05 } })).map (·.regs) =
      some { r0 with a := 0x05, pc := 0x0102 } := by decide

theorem test_ld_a_atc :
    (nextOf (step { st { r0 with c := 0xFF } [0xF2] [] with io := { State.reset.io with ie := 0x1F } })).map (·.regs) =
      some { r0 with a := 0x1F, c := 0xFF, pc := 0x0101 } := by decide

theorem test_ld_a_a16_banked :
    (nextOf (step { st r0 [0xFA, 0x00, 0x40] [(cartRomBase + 0x8000, 0x22), (cartRomBase + 0x4000, 0x11)] with
      mbc := { State.reset.mbc with bankLo := 2 } })).map (·.regs) = some { r0 with a := 0x22, pc := 0x0103 } := by decide

/-- The LCD gate drops the store: LCDC = 80, STAT = 03. -/
theorem test_ld_atde_a_gated :
    ((nextOf (step { st { r0 with d := 0x80, a := 0xAA } [0x12] [] with
      io := { State.reset.io with lcdc := 0x80, stat := 0x03 } })).map (·.mem.read 0x8000)) = some 0x00 := by decide

/-! ## 16-bit loads and the stack (part 3.3) -/

theorem test_ld_hl_d16 :
    regsAfter (st r0 [0x21, 0x34, 0x12] []) = some { r0 with h := 0x12, l := 0x34, pc := 0x0103 } := by decide

theorem test_ld_sp_d16 :
    regsAfter (st r0 [0x31, 0xFE, 0xFF] []) = some { r0 with sp := 0xFFFE, pc := 0x0103 } := by decide

theorem test_ld_a16_sp :
    regsAfter (st { r0 with sp := 0xFFFE } [0x08, 0x00, 0xC1] []) = some { r0 with sp := 0xFFFE, pc := 0x0103 } ∧
    readAfter (st { r0 with sp := 0xFFFE } [0x08, 0x00, 0xC1] []) 0xC100 = some 0xFE ∧
    readAfter (st { r0 with sp := 0xFFFE } [0x08, 0x00, 0xC1] []) 0xC101 = some 0xFF := by decide

theorem test_ld_sp_hl :
    regsAfter (st { r0 with h := 0xDF, l := 0xFF } [0xF9] []) = some { r0 with h := 0xDF, l := 0xFF, sp := 0xDFFF, pc := 0x0101 } := by decide

theorem test_ldhl_sp_pos :
    regsAfter (st { r0 with sp := 0xFFF8 } [0xF8, 0x08] []) = some { r0 with sp := 0xFFF8, f := 0x30, h := 0x00, l := 0x00, pc := 0x0102 } := by decide

theorem test_ldhl_sp_neg :
    regsAfter (st { r0 with sp := 0x0000 } [0xF8, 0xFF] []) = some { r0 with sp := 0x0000, h := 0xFF, l := 0xFF, pc := 0x0102 } := by decide

theorem test_push_bc :
    regsAfter (st { r0 with b := 0x12, c := 0x34, sp := 0xFFFE } [0xC5] []) = some { r0 with b := 0x12, c := 0x34, sp := 0xFFFC, pc := 0x0101 } ∧
    readAfter (st { r0 with b := 0x12, c := 0x34, sp := 0xFFFE } [0xC5] []) 0xFFFD = some 0x12 ∧
    readAfter (st { r0 with b := 0x12, c := 0x34, sp := 0xFFFE } [0xC5] []) 0xFFFC = some 0x34 := by decide

theorem test_push_af :
    regsAfter (st { r0 with a := 0x12, f := 0xB0, sp := 0xD000 } [0xF5] []) = some { r0 with a := 0x12, f := 0xB0, sp := 0xCFFE, pc := 0x0101 } ∧
    readAfter (st { r0 with a := 0x12, f := 0xB0, sp := 0xD000 } [0xF5] []) 0xCFFF = some 0x12 ∧
    readAfter (st { r0 with a := 0x12, f := 0xB0, sp := 0xD000 } [0xF5] []) 0xCFFE = some 0xB0 := by decide

theorem test_pop_de :
    regsAfter (st { r0 with sp := 0xFFFC } [0xD1] [(0xFFFC, 0x34), (0xFFFD, 0x12)]) = some { r0 with sp := 0xFFFE, d := 0x12, e := 0x34, pc := 0x0101 } := by decide

theorem test_pop_af :
    regsAfter (st { r0 with sp := 0xFFFC } [0xF1] [(0xFFFC, 0xFF), (0xFFFD, 0x12)]) = some { r0 with sp := 0xFFFE, a := 0x12, f := 0xF0, pc := 0x0101 } := by decide

/-- PUSH BC at the wrap: AB goes to 0000, a bank command; CD goes to FFFF, IE. -/
theorem test_push_bc_wrap :
    (nextOf (step (st { r0 with b := 0xAB, c := 0xCD, sp := 0x0001 } [0xC5] []))).map
      (fun t => (t.regs.sp, t.io.ie, t.mbc.ramEnable, memRead t 0x0000)) = some (0xFFFF, 0xCD, false, 0xFF) := by decide

theorem test_pop_bc_wrap :
    (nextOf (step { st { r0 with sp := 0xFFFF } [0xC1] [] with io := { State.reset.io with ie := 0x12 } })).map (·.regs) =
      some { r0 with b := 0xFF, c := 0x12, sp := 0x0001, pc := 0x0101 } := by decide

/-! ## 8-bit arithmetic and logic (parts 3.4 and 3.5) -/

theorem test_add_d8 :
    regsAfter (st { r0 with a := 0x3A } [0xC6, 0xC6] []) = some { r0 with a := 0x00, f := 0xB0, pc := 0x0102 } := by decide

theorem test_add_athl :
    regsAfter (st { r0 with a := 0x01, h := 0xC0, l := 0x00 } [0x86] [(0xC000, 0xFF)]) = some { r0 with a := 0x00, h := 0xC0, l := 0x00, f := 0xB0, pc := 0x0101 } := by decide

theorem test_adc_d8 :
    regsAfter (st { r0 with a := 0x00, f := 0x10 } [0xCE, 0x0F] []) = some { r0 with a := 0x10, f := 0x20, pc := 0x0102 } := by decide

theorem test_adc_d8_carry :
    regsAfter (st { r0 with a := 0xE1, f := 0x10 } [0xCE, 0x3B] []) = some { r0 with a := 0x1D, f := 0x10, pc := 0x0102 } := by decide

theorem test_adc_a :
    regsAfter (st { r0 with a := 0x80, f := 0x10 } [0x8F] []) = some { r0 with a := 0x01, f := 0x10, pc := 0x0101 } := by decide

theorem test_sub_d8 :
    regsAfter (st { r0 with a := 0x3E } [0xD6, 0x0F] []) = some { r0 with a := 0x2F, f := 0x60, pc := 0x0102 } := by decide

theorem test_sub_a :
    regsAfter (st { r0 with a := 0x5C } [0x97] []) = some { r0 with a := 0x00, f := 0xC0, pc := 0x0101 } := by decide

theorem test_sbc_d8 :
    regsAfter (st { r0 with a := 0x00, f := 0x10 } [0xDE, 0xFF] []) = some { r0 with a := 0x00, f := 0xF0, pc := 0x0102 } := by decide

theorem test_sbc_d8_borrow :
    regsAfter (st { r0 with a := 0x00, f := 0x10 } [0xDE, 0x00] []) = some { r0 with a := 0xFF, f := 0x70, pc := 0x0102 } := by decide

theorem test_sbc_a :
    regsAfter (st { r0 with a := 0x5C, f := 0x10 } [0x9F] []) = some { r0 with a := 0xFF, f := 0x70, pc := 0x0101 } := by decide

theorem test_and_d8 :
    regsAfter (st { r0 with a := 0x5A } [0xE6, 0x3F] []) = some { r0 with a := 0x1A, f := 0x20, pc := 0x0102 } := by decide

theorem test_and_a :
    regsAfter (st r0 [0xA7] []) = some { r0 with f := 0xA0, pc := 0x0101 } := by decide

theorem test_xor_d8 :
    regsAfter (st { r0 with a := 0xFF } [0xEE, 0x0F] []) = some { r0 with a := 0xF0, pc := 0x0102 } := by decide

theorem test_xor_a :
    regsAfter (st { r0 with a := 0x5C, f := 0xF0 } [0xAF] []) = some { r0 with a := 0x00, f := 0x80, pc := 0x0101 } := by decide

theorem test_or_d8 :
    regsAfter (st { r0 with a := 0x5A } [0xF6, 0x03] []) = some { r0 with a := 0x5B, pc := 0x0102 } := by decide

theorem test_or_a :
    regsAfter (st { r0 with f := 0xF0 } [0xB7] []) = some { r0 with f := 0x80, pc := 0x0101 } := by decide

theorem test_cp_d8 :
    regsAfter (st { r0 with a := 0x3C } [0xFE, 0x40] []) = some { r0 with a := 0x3C, f := 0x50, pc := 0x0102 } := by decide

theorem test_cp_a :
    regsAfter (st { r0 with a := 0x77 } [0xBF] []) = some { r0 with a := 0x77, f := 0xC0, pc := 0x0101 } := by decide

theorem test_inc_b :
    regsAfter (st { r0 with b := 0x0F, f := 0x10 } [0x04] []) = some { r0 with b := 0x10, f := 0x30, pc := 0x0101 } := by decide

theorem test_inc_a :
    regsAfter (st { r0 with a := 0xFF } [0x3C] []) = some { r0 with a := 0x00, f := 0xA0, pc := 0x0101 } := by decide

theorem test_inc_athl :
    regsAfter (st { r0 with h := 0xC0, l := 0x00, f := 0x10 } [0x34] [(0xC000, 0xFF)]) = some { r0 with h := 0xC0, l := 0x00, f := 0xB0, pc := 0x0101 } ∧
    readAfter (st { r0 with h := 0xC0, l := 0x00, f := 0x10 } [0x34] [(0xC000, 0xFF)]) 0xC000 = some 0x00 := by decide

theorem test_dec_a :
    regsAfter (st { r0 with a := 0x01 } [0x3D] []) = some { r0 with a := 0x00, f := 0xC0, pc := 0x0101 } := by decide

theorem test_dec_b :
    regsAfter (st { r0 with f := 0x10 } [0x05] []) = some { r0 with f := 0x70, b := 0xFF, pc := 0x0101 } := by decide

theorem test_dec_athl :
    regsAfter (st { r0 with h := 0xC0, l := 0x00 } [0x35] [(0xC000, 0x10)]) = some { r0 with h := 0xC0, l := 0x00, f := 0x60, pc := 0x0101 } ∧
    readAfter (st { r0 with h := 0xC0, l := 0x00 } [0x35] [(0xC000, 0x10)]) 0xC000 = some 0x0F := by decide

theorem test_cpl :
    regsAfter (st { r0 with a := 0x35 } [0x2F] []) = some { r0 with a := 0xCA, f := 0x60, pc := 0x0101 } := by decide

theorem test_scf :
    regsAfter (st { r0 with f := 0xE0 } [0x37] []) = some { r0 with f := 0x90, pc := 0x0101 } := by decide

theorem test_ccf :
    regsAfter (st { r0 with f := 0xF0 } [0x3F] []) = some { r0 with f := 0x80, pc := 0x0101 } := by decide

theorem test_daa_add :
    regsAfter (st { r0 with a := 0xBF } [0x27] []) = some { r0 with a := 0x25, f := 0x10, pc := 0x0101 } := by decide

theorem test_daa_sub :
    regsAfter (st { r0 with a := 0x00, f := 0x70 } [0x27] []) = some { r0 with a := 0x9A, f := 0x50, pc := 0x0101 } := by decide

/-! ## 16-bit arithmetic (part 3.6) -/

theorem test_add_hl_bc :
    regsAfter (st { r0 with h := 0xFF, l := 0xFF, b := 0x00, c := 0x01 } [0x09] []) = some { r0 with h := 0x00, l := 0x00, b := 0x00, c := 0x01, f := 0x30, pc := 0x0101 } := by decide

theorem test_add_hl_hl :
    regsAfter (st { r0 with h := 0x88, l := 0x00 } [0x29] []) = some { r0 with h := 0x10, l := 0x00, f := 0x30, pc := 0x0101 } := by decide

theorem test_add_hl_sp :
    regsAfter (st { r0 with h := 0x0F, l := 0xFF, sp := 0x0001, f := 0xC0 } [0x39] []) = some { r0 with h := 0x10, l := 0x00, sp := 0x0001, f := 0xA0, pc := 0x0101 } := by decide

theorem test_add_hl_de :
    regsAfter (st { r0 with h := 0xF0, l := 0x00, d := 0x10, e := 0x00 } [0x19] []) = some { r0 with h := 0x00, l := 0x00, d := 0x10, e := 0x00, f := 0x10, pc := 0x0101 } := by decide

theorem test_add_sp_e8 :
    regsAfter (st { r0 with sp := 0xFFFE } [0xE8, 0xFE] []) = some { r0 with sp := 0xFFFC, f := 0x30, pc := 0x0102 } := by decide

theorem test_add_sp_e8_min :
    regsAfter (st r0 [0xE8, 0x80] []) = some { r0 with sp := 0xFF80, pc := 0x0102 } := by decide

theorem test_inc_de :
    regsAfter (st { r0 with d := 0x23, e := 0x5F, f := 0xF0 } [0x13] []) = some { r0 with d := 0x23, e := 0x60, f := 0xF0, pc := 0x0101 } := by decide

theorem test_inc_bc :
    regsAfter (st { r0 with b := 0xFF, c := 0xFF, f := 0xF0 } [0x03] []) = some { r0 with b := 0x00, c := 0x00, f := 0xF0, pc := 0x0101 } := by decide

theorem test_dec_bc :
    regsAfter (st { r0 with b := 0x01, c := 0x00 } [0x0B] []) = some { r0 with b := 0x00, c := 0xFF, pc := 0x0101 } := by decide

theorem test_dec_sp :
    regsAfter (st { r0 with f := 0xF0 } [0x3B] []) = some { r0 with f := 0xF0, sp := 0xFFFF, pc := 0x0101 } := by decide

/-! ## Rotates, shifts and bits (part 3.7) -/

theorem test_rlca :
    regsAfter (st { r0 with a := 0x85 } [0x07] []) = some { r0 with a := 0x0B, f := 0x10, pc := 0x0101 } := by decide

theorem test_rlca_keeps_z :
    regsAfter (st { r0 with f := 0x80 } [0x07] []) = some { r0 with f := 0x80, pc := 0x0101 } := by decide

theorem test_rrca :
    regsAfter (st { r0 with a := 0x3B } [0x0F] []) = some { r0 with a := 0x9D, f := 0x10, pc := 0x0101 } := by decide

theorem test_rla :
    regsAfter (st { r0 with a := 0x80, f := 0xE0 } [0x17] []) = some { r0 with a := 0x00, f := 0x90, pc := 0x0101 } := by decide

theorem test_rra :
    regsAfter (st { r0 with a := 0x81 } [0x1F] []) = some { r0 with a := 0x40, f := 0x10, pc := 0x0101 } := by decide

theorem test_rlc_b :
    regsAfter (st { r0 with b := 0x85 } [0xCB, 0x00] []) = some { r0 with b := 0x0B, f := 0x10, pc := 0x0102 } := by decide

theorem test_rrc_c :
    regsAfter (st { r0 with c := 0x01 } [0xCB, 0x09] []) = some { r0 with c := 0x80, f := 0x10, pc := 0x0102 } := by decide

theorem test_rl_l :
    regsAfter (st { r0 with l := 0x80 } [0xCB, 0x15] []) = some { r0 with l := 0x00, f := 0x90, pc := 0x0102 } := by decide

theorem test_rl_b :
    regsAfter (st { r0 with f := 0x10 } [0xCB, 0x10] []) = some { r0 with f := 0x00, b := 0x01, pc := 0x0102 } := by decide

theorem test_rr_a :
    regsAfter (st { r0 with a := 0x01 } [0xCB, 0x1F] []) = some { r0 with a := 0x00, f := 0x90, pc := 0x0102 } := by decide

theorem test_sla_d :
    regsAfter (st { r0 with d := 0x80 } [0xCB, 0x22] []) = some { r0 with d := 0x00, f := 0x90, pc := 0x0102 } := by decide

theorem test_sra_a :
    regsAfter (st { r0 with a := 0x8A } [0xCB, 0x2F] []) = some { r0 with a := 0xC5, pc := 0x0102 } := by decide

theorem test_swap_a :
    regsAfter (st { r0 with a := 0xF1 } [0xCB, 0x37] []) = some { r0 with a := 0x1F, pc := 0x0102 } := by decide

theorem test_srl_athl :
    regsAfter (st { r0 with h := 0xC0, l := 0x00 } [0xCB, 0x3E] [(0xC000, 0xFF)]) = some { r0 with h := 0xC0, l := 0x00, f := 0x10, pc := 0x0102 } ∧
    readAfter (st { r0 with h := 0xC0, l := 0x00 } [0xCB, 0x3E] [(0xC000, 0xFF)]) 0xC000 = some 0x7F := by decide

theorem test_srl_b :
    regsAfter (st { r0 with b := 0x01 } [0xCB, 0x38] []) = some { r0 with b := 0x00, f := 0x90, pc := 0x0102 } := by decide

theorem test_bit_7_h :
    regsAfter (st { r0 with h := 0x80, f := 0x10 } [0xCB, 0x7C] []) = some { r0 with h := 0x80, f := 0x30, pc := 0x0102 } := by decide

theorem test_bit_0_b :
    regsAfter (st { r0 with b := 0xFE } [0xCB, 0x40] []) = some { r0 with b := 0xFE, f := 0xA0, pc := 0x0102 } := by decide

theorem test_bit_0_athl :
    regsAfter (st { r0 with h := 0xC0, l := 0x00 } [0xCB, 0x46] [(0xC000, 0xFF)]) = some { r0 with h := 0xC0, l := 0x00, f := 0x20, pc := 0x0102 } ∧
    readAfter (st { r0 with h := 0xC0, l := 0x00 } [0xCB, 0x46] [(0xC000, 0xFF)]) 0xC000 = some 0xFF := by decide

theorem test_res_7_a :
    regsAfter (st { r0 with a := 0xFF, f := 0xF0 } [0xCB, 0xBF] []) = some { r0 with a := 0x7F, f := 0xF0, pc := 0x0102 } := by decide

theorem test_res_0_athl :
    regsAfter (st { r0 with h := 0xC0, l := 0x00 } [0xCB, 0x86] [(0xC000, 0xFF)]) = some { r0 with h := 0xC0, l := 0x00, pc := 0x0102 } ∧
    readAfter (st { r0 with h := 0xC0, l := 0x00 } [0xCB, 0x86] [(0xC000, 0xFF)]) 0xC000 = some 0xFE := by decide

theorem test_set_1_e :
    regsAfter (st r0 [0xCB, 0xCB] []) = some { r0 with e := 0x02, pc := 0x0102 } := by decide

theorem test_set_3_athl :
    regsAfter (st { r0 with h := 0xC0, l := 0x00 } [0xCB, 0xDE] []) = some { r0 with h := 0xC0, l := 0x00, pc := 0x0102 } ∧
    readAfter (st { r0 with h := 0xC0, l := 0x00 } [0xCB, 0xDE] []) 0xC000 = some 0x08 := by decide

/-- With ROTA_CLEARS_Z. -/
theorem test_rla_clears_z :
    (nextOf (step { st { r0 with a := 0x80, f := 0xE0 } [0x17] [] with
      params := { Params.default with rotaClearsZ := true } })).map (·.regs) =
      some { r0 with f := 0x10, pc := 0x0101 } := by decide

/-! ## Control transfer (part 3.8) -/

theorem test_jp :
    regsAfter (st r0 [0xC3, 0x50, 0x01] []) = some { r0 with pc := 0x0150 } := by decide

theorem test_jp_z_no :
    regsAfter (st { r0 with pc := 0x0200 } [0xCA, 0x00, 0x80] []) = some { r0 with pc := 0x0203 } := by decide

theorem test_jp_z_yes :
    regsAfter (st { r0 with pc := 0x0200, f := 0x80 } [0xCA, 0x00, 0x80] []) = some { r0 with pc := 0x8000, f := 0x80 } := by decide

theorem test_jp_hl :
    regsAfter (st { r0 with h := 0xC0, l := 0x00 } [0xE9] []) = some { r0 with h := 0xC0, l := 0x00, pc := 0xC000 } := by decide

theorem test_jr :
    regsAfter (st { r0 with pc := 0x0010 } [0x18, 0x80] []) = some { r0 with pc := 0xFF92 } := by decide

theorem test_jr_nz_yes :
    regsAfter (st { r0 with pc := 0x0105 } [0x20, 0xFB] []) = some { r0 with pc := 0x0102 } := by decide

theorem test_jr_nz_no :
    regsAfter (st { r0 with pc := 0x0105, f := 0x80 } [0x20, 0xFB] []) = some { r0 with pc := 0x0107, f := 0x80 } := by decide

theorem test_call :
    regsAfter (st { r0 with pc := 0x0150, sp := 0xFFFE } [0xCD, 0x00, 0x02] []) = some { r0 with pc := 0x0200, sp := 0xFFFC } ∧
    readAfter (st { r0 with pc := 0x0150, sp := 0xFFFE } [0xCD, 0x00, 0x02] []) 0xFFFD = some 0x01 ∧
    readAfter (st { r0 with pc := 0x0150, sp := 0xFFFE } [0xCD, 0x00, 0x02] []) 0xFFFC = some 0x53 := by decide

theorem test_call_c_no :
    regsAfter (st { r0 with sp := 0xFFFE } [0xDC, 0x00, 0x02] []) = some { r0 with sp := 0xFFFE, pc := 0x0103 } ∧
    readAfter (st { r0 with sp := 0xFFFE } [0xDC, 0x00, 0x02] []) 0xFFFD = some 0x00 := by decide

theorem test_ret :
    regsAfter (st { r0 with sp := 0xFFFC } [0xC9] [(0xFFFC, 0x53), (0xFFFD, 0x01)]) = some { r0 with sp := 0xFFFE, pc := 0x0153 } := by decide

theorem test_ret_z_yes :
    regsAfter (st { r0 with sp := 0xFFFC, f := 0x80 } [0xC8] [(0xFFFC, 0x53), (0xFFFD, 0x01)]) = some { r0 with sp := 0xFFFE, f := 0x80, pc := 0x0153 } := by decide

theorem test_ret_z_no :
    regsAfter (st { r0 with sp := 0xFFFC } [0xC8] [(0xFFFC, 0x53), (0xFFFD, 0x01)]) = some { r0 with sp := 0xFFFC, pc := 0x0101 } := by decide

theorem test_rst_28 :
    regsAfter (st { r0 with pc := 0x0300, sp := 0xFFFE } [0xEF] []) = some { r0 with pc := 0x0028, sp := 0xFFFC } ∧
    readAfter (st { r0 with pc := 0x0300, sp := 0xFFFE } [0xEF] []) 0xFFFD = some 0x03 ∧
    readAfter (st { r0 with pc := 0x0300, sp := 0xFFFE } [0xEF] []) 0xFFFC = some 0x01 := by decide

theorem test_reti :
    (nextOf (step (st { r0 with sp := 0xFFFC } [0xD9] [(0xFFFC, 0x34), (0xFFFD, 0x02)]))).map (fun t => (t.regs, t.ime)) =
      some ({ r0 with pc := 0x0234, sp := 0xFFFE }, true) := by decide

/-! ## System instructions and faults (part 3.9) -/

/-- Requests and enables set. -/
def withInts (s : State) (f e : Byte) (ime : Bool) : State :=
  { s with io := { s.io with ifReg := f, ie := e }, ime := ime }

theorem test_nop : (nextOf (step (st r0 [0x00] []))).map (fun t => (t.regs.pc, t.divAcc)) = some (0x0101, 4) := by decide

theorem test_di :
    (nextOf (step (withInts (st r0 [0xF3] []) 0x01 0x01 true))).map (fun t => (t.ime, t.regs.pc, t.io.ifReg)) =
      some (false, 0x0101, 0x01) := by decide

theorem test_ei : (nextOf (step (st r0 [0xFB] []))).map (fun t => (t.ime, t.regs.pc)) = some (true, 0x0101) := by decide

theorem test_ei_pending :
    (nextOf (step (withInts (st { r0 with sp := 0xFFFE } [0xFB] []) 0x01 0x01 false))).map
      (fun t => (t.ime, t.regs.pc, t.regs.sp, t.io.ifReg, memRead t 0xFFFD, memRead t 0xFFFC)) =
      some (false, 0x0040, 0xFFFC, 0x00, 0x01, 0x01) := by decide

/-- Under EI_DELAY the interrupt is not taken in the step of EI. -/
theorem test_ei_delay :
    (nextOf (step (withInts { st r0 [0xFB] [] with params := { Params.default with eiDelay := true } } 0x01 0x01 false))).map
      (fun t => (t.ime, t.eiPending, t.regs.pc)) = some (false, true, 0x0101) := by decide

theorem test_halt :
    (nextOf (step (withInts (st { r0 with pc := 0x0150 } [0x76] []) 0x00 0x04 false))).map
      (fun t => (t.halted, t.regs.pc)) = some (true, 0x0151) := by decide

/-- HALT with a request pending and IME clear: set by HALT, cleared by the closing scan. -/
theorem test_halt_pending :
    (nextOf (step (withInts (st { r0 with pc := 0x0150 } [0x76, 0x04] []) 0x01 0x01 false))).map
      (fun t => (t.halted, t.regs.pc)) = some (false, 0x0151) := by decide

theorem test_wake_without_ime :
    (nextOf (step (withInts { st { r0 with pc := 0x0151 } [] [] with halted := true } 0x04 0x04 false))).map
      (fun t => (t.halted, t.regs.pc, t.io.ifReg, t.divAcc)) = some (false, 0x0151, 0x04, 4) := by decide

theorem test_wake_with_ime :
    (nextOf (step (withInts { st { r0 with pc := 0x0151, sp := 0xFFFE } [] [] with halted := true } 0x04 0x04 true))).map
      (fun t => (t.halted, t.ime, t.regs.pc, t.regs.sp, memRead t 0xFFFD, memRead t 0xFFFC)) =
      some (false, false, 0x0050, 0xFFFC, 0x01, 0x51) := by decide

theorem test_no_wake :
    (nextOf (step (withInts { st { r0 with pc := 0x0151 } [] [] with halted := true } 0x01 0x04 true))).map
      (fun t => (t.halted, t.regs.pc)) = some (true, 0x0151) := by decide

theorem test_stop :
    nextOf (step (st { r0 with pc := 0x0200 } [0x10, 0x00] [])) =
      some { st { r0 with pc := 0x0200 } [0x10, 0x00] [] with fault := some (.executorError "STOP") } := by decide

theorem test_undefined :
    nextOf (step (st r0 [0xD3] [])) = some { st r0 [0xD3] [] with fault := some (.decodeError 0xD3) } := by decide

theorem test_faulted_stays : nextOf (step { st r0 [0x00] [] with fault := some (.decodeError 0xD3) }) = none := by decide

/-! ## Memory map, banking, gates (part 3.10) -/

theorem test_echo :
    memRead (memWrite (st r0 [] []) 0xDDFF 0xA5) 0xFDFF = 0xA5 ∧ memRead (memWrite (st r0 [] []) 0xE000 0x5A) 0xC000 = 0x5A ∧
    memRead (memWrite (st r0 [] []) 0xDE00 0x11) 0xFE00 = 0x00 := by decide

/-- `CART_ROM(b * 0x4000) = b` for the banks the test names. -/
def banks (v hi : Byte) : Byte :=
  memRead (memWrite (memWrite (st r0 [] [(cartRomBase + 0x4000 * 0x01, 0x01), (cartRomBase + 0x4000 * 0x3F, 0x3F),
    (cartRomBase + 0x4000 * 0x41, 0x41), (cartRomBase + 0x4000 * 0x45, 0x45), (cartRomBase + 0x4000 * 0x61, 0x61)])
    0x4000 hi) 0x2000 v) 0x4000

theorem test_bank_quirk :
    banks 0x00 0 = 0x01 ∧ banks 0x20 2 = 0x41 ∧ banks 0xE0 3 = 0x61 ∧ banks 0x1F 1 = 0x3F ∧ banks 0x25 2 = 0x45 := by decide

theorem test_extram :
    let s := st r0 [] [(extramBase, 0x42)]
    let on := memWrite s 0x0000 0x0A
    let b2 := memWrite (memWrite (memWrite on 0x6000 0x01) 0x4000 0x02) 0xA000 0x22
    memRead s 0xA000 = 0xFF ∧ memWrite s 0xA000 0x99 = s ∧ memRead on 0xA000 = 0x42 ∧ b2.mem.read (extramBase + 0x4000) = 0x22 ∧
    memRead (memWrite b2 0x6000 0x00) 0xA000 = 0x42 ∧ memRead (memWrite b2 0x0000 0x0B) 0xA000 = 0xFF := by decide

/-- LCD on, mode 2 and mode 3. -/
theorem test_lcd_gate :
    let s := st r0 [] [(0x8000, 0x12), (0xFE00, 0x34)]
    let m2 := { s with io := { s.io with lcdc := 0x80, stat := 0x86 } }
    let m3 := { s with io := { s.io with lcdc := 0x80, stat := 0x03 } }
    memRead m2 0x8000 = 0x12 ∧ memRead m2 0xFE00 = 0xFF ∧ memRead m3 0x8000 = 0xFF ∧ memWrite m3 0x9FFF 0x55 = m3 ∧
    memRead { m3 with io := { m3.io with lcdc := 0x00 } } 0x8000 = 0x12 := by decide

theorem test_unusable : memRead (st r0 [] []) 0xFEA0 = 0xFF ∧ memWrite (st r0 [] []) 0xFEFF 0x12 = st r0 [] [] := by decide

theorem test_stat_keeps_mode :
    (memWrite { State.reset with io := { State.reset.io with stat := 0x05 } } 0xFF41 0xFF).io.stat = 0xFD ∧
    (memWrite { State.reset with io := { State.reset.io with stat := 0xFF } } 0xFF41 0x00).io.stat = 0x07 := by decide

theorem test_div_write :
    (nextOf (step { st { r0 with a := 0x77 } [0xE0, 0x04] [] with
      io := { State.reset.io with div := 0x9C, tac := 0x04 }, divAcc := 200, timaAcc := 7 })).map (fun t => (t.io.div, t.divAcc, t.timaAcc)) =
      some (0x00, 12, 19) := by decide

/-- P1 after a write of `sel`, with these buttons. -/
def p1 (sel : Byte) (j : Joypad) : Byte := memRead { memWrite State.reset 0xFF00 sel with joypad := j } 0xFF00

theorem test_joypad :
    let j := State.reset.joypad
    p1 0xFF j = 0xFF ∧ p1 0xEF { j with right := true } = 0xEE ∧ p1 0xEF { j with a := true } = 0xEF ∧
    p1 0xDF { j with a := true, start := true } = 0xD6 ∧ p1 0xCF { j with a := true, left := true } = 0xCC := by decide

/-- The boot overlay and the latch. -/
theorem test_boot :
    let s := { State.reset with mem := cells [(bootRomBase, 0x3E), (cartRomBase, 0xC3), (cartRomBase + 0x100, 0x00)] }
    memRead s 0x0000 = 0x3E ∧ memRead s 0x0100 = 0x00 ∧ memRead (memWrite s 0xFF50 0x01) 0x0000 = 0xC3 ∧
    (memWrite s 0xFF50 0x01).io.boot = 0x01 := by decide

/-- The boot ROM's first instruction, `31 FE FF` (part 3.13). -/
theorem test_first_step :
    (nextOf (step { State.reset with mem := cells (bytesAt bootRomBase [0x31, 0xFE, 0xFF]) })).map
      (fun t => (t.regs.sp, t.regs.pc, t.divAcc)) = some (0xFFFE, 0x0003, 12) := by decide

/-- The OAM DMA's copy, window and lockout. -/
theorem test_dma :
    (nextOf (step (st { r0 with a := 0xC0, sp := 0xFFFE } [0xE0, 0x46] [(0xC000, 0x5A), (0xC09F, 0xC5)]))).map
      (fun t => ([t.io.dma, t.mem.read 0xFE00, t.mem.read 0xFE9F, memRead t 0xC000, rawRead t 0xC000, memRead t 0xFFFF],
        t.dmaRemaining)) = some ([0xC0, 0x5A, 0xC5, 0xFF, 0x5A, 0xFF], 636) := by decide +kernel

/-- A denied fetch is RST 38H; its pushes go to high RAM. -/
theorem test_denied_fetch :
    (nextOf (step { st { r0 with pc := 0x0102, sp := 0xFFFE } [0x00] [] with dmaRemaining := 636 })).map
      (fun t => (t.regs.pc, t.regs.sp, memRead t 0xFFFD, memRead t 0xFFFC, t.dmaRemaining)) =
      some (0x0038, 0xFFFC, 0x01, 0x03, 620) := by decide

/-- The copy from 0xFF00: P1's composition, a plain byte, the trigger byte, high RAM. -/
theorem test_dma_from_io :
    let t := memWrite (st r0 [] [(0xFF10, 0x33), (0xFF80, 0xAA)]) 0xFF46 0xFF
    t.mem.read 0xFE00 = 0xFF ∧ t.mem.read 0xFE10 = 0x33 ∧ t.mem.read 0xFE46 = 0xFF ∧ t.mem.read 0xFE80 = 0xAA ∧
    t.mem.read 0xFE9F = 0x00 := by decide +kernel

/-! ## Interrupts and timer (parts 3.11 and 3.12) -/

/-- One step of NOP at 0100 with SP = FFFE. -/
def scan (f e : Byte) (ime : Bool) : Option (Byte × Bool × Word × Word) :=
  (nextOf (step (withInts (st { r0 with sp := 0xFFFE } [0x00] []) f e ime))).map
    (fun t => (t.io.ifReg, t.ime, t.regs.sp, t.regs.pc))

theorem test_interrupt_priority :
    scan 0x1F 0x1A true = some (0x1D, false, 0xFFFC, 0x0048) ∧ scan 0x14 0x1F true = some (0x10, false, 0xFFFC, 0x0050) := by
  decide

theorem test_interrupt_vectors :
    scan 0x01 0x01 true = some (0x00, false, 0xFFFC, 0x0040) ∧ scan 0x08 0x08 true = some (0x00, false, 0xFFFC, 0x0058) ∧
    scan 0x10 0x10 true = some (0x00, false, 0xFFFC, 0x0060) := by decide

theorem test_interrupt_not_taken :
    scan 0xE0 0xFF true = some (0xE0, true, 0xFFFE, 0x0101) ∧ scan 0x01 0x01 false = some (0x01, false, 0xFFFE, 0x0101) ∧
    scan 0x01 0x1E true = some (0x01, true, 0xFFFE, 0x0101) := by decide

/-- The environment's request is scanned in the same step. -/
theorem test_environment_request :
    (nextOf (step { withInts (st { r0 with sp := 0xFFFE } [0x00] []) 0x00 0x10 true with env := [[.request .joypad]] })).map
      (fun t => (t.io.ifReg, t.regs.pc, t.env)) = some (0x00, 0x0060, []) := by decide

/-- StepTimer from TAC, TIMA, TMA, tima_acc 0. -/
def timer (tac tima tma : Byte) (n : Nat) : Byte × Byte × Nat :=
  let t := stepTimer n { State.reset with io := { State.reset.io with tac := tac, tima := tima, tma := tma } }
  (t.io.tima, t.io.ifReg, t.timaAcc)

theorem test_timer_overflow :
    timer 0x05 0xFF 0xAB 16 = (0xAB, 0x04, 0) ∧ timer 0x05 0xFF 0xAB 15 = (0xFF, 0x00, 15) ∧
    timer 0x05 0xFE 0xFF 48 = (0xFF, 0x04, 0) ∧ timer 0x01 0xFF 0xAB 16 = (0xFF, 0x00, 0) := by decide

theorem test_timer_periods :
    timer 0x04 0x10 0 1023 = (0x10, 0, 1023) ∧ timer 0x04 0x10 0 1024 = (0x11, 0, 0) ∧ timer 0x06 0x10 0 64 = (0x11, 0, 0) ∧
    timer 0x07 0x10 0 256 = (0x11, 0, 0) := by decide

theorem test_divider_wraps :
    (stepTimer 4 { State.reset with divAcc := 252, io := { State.reset.io with div := 0xFF } }).io.div = 0x00 := by decide

/-! ## The host's two readings of a table word -/

theorem test_table_word :
    decodeTableWord 8 0x78 = some .ldAB ∧ decodeTableWord 8 0x01 = some (.ldBcD16 0) ∧
    decodeTableWord 16 0xCB7C = some .bit7H := by decide

theorem test_fetch_word :
    (nextOf (step (State.reset.withFetchWord 8 0x04))).map (·.regs.b) = some 0x01 := by decide

/-! ## Witnesses: for every obligation with hypotheses, a state and operands that meet them, clause by clause -/

theorem witness_DecodeInvertsEncode :
    (Instr.jpA16 0xFFFF).wellFormed = true ∧ (Instr.undefined 0xFD).wellFormed = true := by decide

theorem witness_EncodeInvertsDecode : decode [0xC3, 0xFF, 0xFF, 0x00] = .ok (.jpA16 0xFFFF, [0x00]) := by decide

theorem witness_OpcodeFormulas :
    (3, Reg16.sp) ∈ [(0, Reg16.bc), (1, .de), (2, .hl), (3, .sp)] ∧ (3, Stk16.af) ∈ [(0, Stk16.bc), (1, .de), (2, .hl), (3, .af)] ∧
    (3, Cond.c) ∈ [(0, Cond.nz), (1, .z), (2, .nc), (3, .c)] ∧
    (0xFD : Byte) ∈ ([0xD3, 0xDB, 0xDD, 0xE3, 0xE4, 0xEB, 0xEC, 0xED, 0xF4, 0xFC, 0xFD] : List Byte) := by decide

theorem witness_LengthFromFirstByte :
    byteLength (decodeBytes 0xFA 0 0) = 3 ∧ byteLength (decodeBytes 0xCB 0 0) = 2 ∧ byteLength (decodeBytes 0xFF 0 0) = 1 := by
  decide

/-- A running core at NOP, one at STOP, and a halted one. -/
theorem witness_StepRunsDecodedInstruction :
    (let s := st r0 [0x00] []
     s.fault = none ∧ s.halted = false ∧
     decode [memRead s s.regs.pc, memRead s (s.regs.pc + 1), memRead s (s.regs.pc + 2)] = .ok (.nop, [0xFF, 0xFF]) ∧
     nextOf (exec .nop s) = some { s with regs := { r0 with pc := 0x0101 } }) ∧
    (let s := st r0 [0x10, 0x00] []
     decode [memRead s s.regs.pc, memRead s (s.regs.pc + 1), memRead s (s.regs.pc + 2)] = .ok (.stop 0x00, [0xFF]) ∧
     ((nextOf (exec (.stop 0x00) s)).map (·.fault.isSome)) = some true) ∧
    (let s := { st r0 [] [] with halted := true }
     s.fault = none ∧ s.halted = true) := by decide

/-- Two rows replaced, one of them twice. -/
def repriced : State :=
  { State.reset with params := { Params.default with cycles := [{ row := 0x00, base := 5, penalty := 3 },
    { row := 0xC0, base := 9, penalty := 7 }, { row := 0xC0, base := 1, penalty := 1 }] } }

theorem witness_CycleCosts :
    (0x00 : Byte) ≠ 0xCB ∧ (0xFF : Byte) ≠ 0xCB ∧ State.reset.params.cycles = [] ∧
    Instr.jpHl ∈ [Instr.nop, .halt, .di, .ei, .rlca, .rrca, .rla, .rra, .daa, .cpl, .scf, .ccf, .jpHl] ∧
    Instr.ldSpHl ∈ [Instr.ldAtBcA, .ldAtDeA, .ldAAtBc, .ldAAtDe, .ldAtHlIncA, .ldAtHlDecA, .ldAAtHlInc, .ldAAtHlDec,
      .ldAtCA, .ldAAtC, .ldSpHl] ∧
    Instr.reti ∈ [Instr.ret, .reti] ∧
    cyclesOf .daa State.reset = 4 ∧ cyclesOf (.ldAtA16Sp 0) State.reset = 20 ∧ cyclesOf .bit7AtHl State.reset = 16 := by
  decide

/-- The first replaced row decides: RET NZ at the second of three, its condition true; NOP at the head; RET Z at none. -/
theorem witness_CycleCosts_replaced :
    repriced.params.cycles = [{ row := 0x00, base := 5, penalty := 3 }] ++
      { row := 0xC0, base := 9, penalty := 7 } :: [{ row := 0xC0, base := 1, penalty := 1 }] ∧
    (∀ q ∈ ([{ row := 0x00, base := 5, penalty := 3 }] : List CycleRow), q.row ≠ rowOf .retNz) ∧ rowOf .retNz = 0xC0 ∧
    Instr.retNz ∈ [mkJr .nz 0, mkJp .nz 0, mkCall .nz 0, mkRet .nz] ∧ condHolds .nz repriced.regs.f = true ∧
    cyclesOf .retNz repriced = 16 ∧
    rowOf .nop = 0x00 ∧ cyclesOf .nop repriced = 5 ∧
    (∀ q ∈ repriced.params.cycles, q.row ≠ rowOf .retZ) ∧ cyclesOf .retZ repriced = 8 := by decide

/-- NOP is none of the conditional transfers. -/
theorem witness_CycleCosts_unconditional (cc : Cond) (e8 : Byte) (a16 : Word) :
    Instr.nop ∉ [mkJr cc e8, mkJp cc a16, mkCall cc a16, mkRet cc] := by cases cc <;> simp [mkJr, mkJp, mkCall, mkRet]

theorem witness_EveryStepAnswers :
    State.reset.fault = none ∧ { State.reset with fault := some (.decodeError 0xD3) }.fault = some (.decodeError 0xD3) := by decide

theorem witness_OnlyDecodeErrorsAndStopFault :
    (st r0 [0xFD] []).fault = none ∧ (st r0 [0xFD] []).halted = false ∧ memRead (st r0 [0xFD] []) r0.pc ∈ undefinedOpcodes ∧
    ((nextOf (step (st r0 [0xFD] []))).map (·.fault)) = some (some (.decodeError 0xFD)) ∧
    memRead (st r0 [0x10] []) r0.pc = 0x10 ∧
    ((nextOf (step (st r0 [0x10] []))).map (·.fault)) = some (some (.executorError "STOP")) := by decide

theorem witness_FatalFaultChangesNothingElse :
    (st r0 [0xD3] []).fault = none ∧
    nextOf (step (st r0 [0xD3] [])) = some { st r0 [0xD3] [] with fault := some (.decodeError 0xD3) } := by decide

theorem witness_TerminalIdleLastsForEver :
    TerminalIdle { State.reset with halted := true, io := { State.reset.io with ie := 0xE0, ifReg := 0x1F } } :=
  ⟨rfl, rfl, by decide⟩

theorem witness_StepKeepsInvariant : Inv (st r0 [0x27] []) ∧ (nextOf (step (st r0 [0x27] []))).isSome = true :=
  ⟨⟨by decide, by decide, by decide, by decide, by decide, by decide⟩, by decide⟩

theorem witness_FlagLowNibbleStaysZero :
    (st { r0 with f := 0xF0 } [0x27] []).regs.f.toNat % 16 = 0 ∧
    ((nextOf (step (st { r0 with f := 0xF0 } [0x27] []))).map (·.regs.f)) = some 0x50 := by decide

theorem witness_RomParametersAndBootLatchAreStable :
    (st r0 [0x77] []).hasBooted = true ∧ (nextOf (step (st r0 [0x77] []))).isSome = true ∧ bootRomBase ≤ bootRomBase := by decide

/-- By EI, by RETI, by a waiting EI. -/
theorem witness_ImeIsSetOnlyByEiAndReti :
    (st r0 [0xFB] []).ime = false ∧ (st r0 [0xFB] []).fault = none ∧
    ((nextOf (step (st r0 [0xFB] []))).map (·.ime)) = some true ∧
    ((nextOf (step (st r0 [0xD9] []))).map (·.ime)) = some true ∧
    ((nextOf (step { st r0 [0x00] [] with eiPending := true, params := { Params.default with eiDelay := true } })).map
      (·.ime)) = some true := by decide

/-- A state with the lockout open, one with the LCD on in mode `m`. -/
def locked (n : Nat) : State := { State.reset with dmaRemaining := n }

def lcd (m : Byte) : State := { State.reset with io := { State.reset.io with lcdc := 0x80, stat := m } }

theorem witness_GatedAccessChecksInOrder :
    ((locked 1).dmaRemaining > 0 ∧ ¬ (0xFF80 ≤ (0xFF7F : Word).toNat ∧ (0xFF7F : Word).toNat ≤ 0xFFFE) ∧
      ¬ (0xFF80 ≤ (0xFFFF : Word).toNat ∧ (0xFFFF : Word).toNat ≤ 0xFFFE)) ∧
    ((lcd 3).dmaRemaining = 0 ∧ lcdOn (lcd 3) = true ∧ lcdMode (lcd 3) = 3 ∧
      (0x8000 ≤ (0x8000 : Word).toNat ∧ (0x9FFF : Word).toNat ≤ 0x9FFF)) ∧
    (lcdOn (lcd 2) = true ∧ lcdMode (lcd 2) = 2 ∧ (0xFE00 ≤ (0xFE00 : Word).toNat ∧ (0xFE9F : Word).toNat ≤ 0xFE9F)) ∧
    ((locked 0).dmaRemaining = 0 ∧ lcdOn (locked 0) = false) := by decide

theorem witness_LockoutDeniesAllButHighRam :
    (locked 1).dmaRemaining > 0 ∧ (0xFF7F : Word).toNat < 0xFF80 ∧ (0xFFFF : Word).toNat = 0xFFFF ∧
    (0xFF80 ≤ (0xFFFE : Word).toNat ∧ (0xFFFE : Word).toNat ≤ 0xFFFE) := by decide

theorem witness_BootOverlayAndFixedBank :
    (0x00FF : Word).toNat < 0x100 ∧ State.reset.hasBooted = false ∧ (st r0 [] []).hasBooted = true ∧
    0x100 ≤ (0x0100 : Word).toNat ∧ (0x3FFF : Word).toNat < 0x4000 ∧ State.reset.dmaRemaining = 0 ∧ (159 : Nat) < 160 := by decide

theorem witness_SwitchableBankIsNeverAMultipleOf32 : 0x4000 ≤ (0x4000 : Word).toNat ∧ (0x7FFF : Word).toNat < 0x8000 := by decide

/-- One command at each end of each range. -/
theorem witness_BankCommands :
    State.reset.dmaRemaining = 0 ∧
    (memWrite State.reset 0x1FFF 0x1A).mbc.ramEnable = true ∧ (memWrite State.reset 0x0000 0x0B).mbc.ramEnable = false ∧
    (memWrite State.reset 0x2000 0xFF).mbc.bankLo = 0x1F ∧ (memWrite State.reset 0x3FFF 0x25).mbc.bankLo = 5 ∧
    (memWrite State.reset 0x4000 0xFF).mbc.bankHi = 3 ∧ (memWrite State.reset 0x5FFF 0x02).mbc.bankHi = 2 ∧
    (memWrite State.reset 0x6000 0x01).mbc.mode = true ∧ (memWrite State.reset 0x7FFF 0x02).mbc.mode = false := by decide

theorem witness_RomIsOnlyACommandSink :
    (0x7FFF : Word).toNat < 0x8000 ∧ (0x3FFF : Word).toNat < 0x4000 ∧
    (0x4000 ≤ (0x4000 : Word).toNat ∧ (0x4000 : Word).toNat < 0x8000) := by decide

theorem witness_PlainStorageRegions :
    (0x8000 ≤ (0x8000 : Word).toNat ∧ (0x9FFF : Word).toNat ≤ 0x9FFF) ∧
    (0xC000 ≤ (0xC000 : Word).toNat ∧ (0xDFFF : Word).toNat ≤ 0xDFFF) ∧
    (0xFE00 ≤ (0xFE00 : Word).toNat ∧ (0xFE9F : Word).toNat ≤ 0xFE9F) ∧
    (0xFF80 ≤ (0xFF80 : Word).toNat ∧ (0xFFFE : Word).toNat ≤ 0xFFFE) ∧
    (lcd 3).dmaRemaining = 0 ∧ denied (lcd 3) 0xC000 = false ∧ denied (locked 1) 0xFF80 = false ∧ (0 : Nat) ≠ 0xFFFE ∧
    denied (lcd 2) 0xFE00 = true ∧ denied (lcd 3) 0xFE9F = true ∧ denied (lcd 1) 0xFE00 = false ∧
    denied (lcd 3) 0x9FFF = true ∧ denied (lcd 2) 0x8000 = false := by decide

theorem witness_EchoRamIsWorkRam :
    (0xC000 ≤ (0xDDFF : Word).toNat ∧ (0xDDFF : Word).toNat ≤ 0xDDFF) ∧
    (0xDE00 ≤ (0xDE00 : Word).toNat ∧ (0xDE00 : Word).toNat ≤ 0xDFFF) ∧ (0xFE00 : Word) ≠ 0xDE00 := by decide

theorem witness_ExternalRamIsBankedAndGated :
    (0xA000 ≤ (0xA000 : Word).toNat ∧ (0xBFFF : Word).toNat ≤ 0xBFFF) ∧
    (memWrite State.reset 0x0000 0x0A).mbc.ramEnable = true ∧ State.reset.mbc.ramEnable = false := by decide

/-- At the ends of the storage regions, the echo and enabled external RAM among them. -/
theorem witness_StoredByteIsReadBackAndOthersKept :
    denied State.reset 0x8000 = false ∧ target State.reset 0x8000 = .cell 0x8000 ∧ target State.reset 0xFDFF = .cell 0xDDFF ∧
    target State.reset 0xFFFE = .cell 0xFFFE ∧
    target (memWrite State.reset 0x0000 0x0A) 0xBFFF = .cell (extramBase + 0x1FFF) ∧ (0x8001 : Nat) ≠ 0x8000 := by decide

theorem witness_OamDmaCopiesAPage :
    State.reset.dmaRemaining = 0 ∧ (159 : Nat) < 160 ∧ (0xFDFF : Nat) < 0xFE00 ∧ (0xFE9F : Nat) < 0xFEA0 ∧
    (locked 1).dmaRemaining > 0 := by decide

theorem witness_IoRegisterWrites :
    State.reset.dmaRemaining = 0 ∧ (0xFEA0 ≤ (0xFEA0 : Word).toNat ∧ (0xFEFF : Word).toNat ≤ 0xFEFF) ∧
    (0xFF01 ≤ (0xFF01 : Word).toNat ∧ (0xFF7F : Word).toNat ≤ 0xFF7F) ∧
    (0xFF01 : Word).toNat ∉ [0xFF04, 0xFF05, 0xFF06, 0xFF07, 0xFF0F, 0xFF40, 0xFF41, 0xFF46, 0xFF50] ∧
    (0xFF7F : Word).toNat ∉ [0xFF04, 0xFF05, 0xFF06, 0xFF07, 0xFF0F, 0xFF40, 0xFF41, 0xFF46, 0xFF50] := by decide

theorem witness_IoRegisterReads :
    State.reset.dmaRemaining = 0 ∧ memRead State.reset 0xFF01 = 0x00 ∧ memRead State.reset 0xFF7F = 0x00 ∧
    memRead State.reset 0xFEA0 = 0xFF := by decide

/-- The clauses of StoresByteAt: a denied address, a cell, a register. -/
theorem witness_ByteStores :
    denied (locked 1) 0xC000 = true ∧ denied State.reset 0xC000 = false ∧ target State.reset 0xC000 = .cell 0xC000 ∧
    target State.reset 0xFF05 = .reg .tima ∧ Target.reg .tima ≠ .reg .dma := by decide

/-- The clauses of StoresTwoBytesAt: both denied, both cells, neither. -/
theorem witness_StoreOfSp :
    denied (locked 1) 0xC000 = true ∧ denied (locked 1) 0xC001 = true ∧ denied State.reset 0xC000 = false ∧
    target State.reset 0xC000 = .cell 0xC000 ∧ denied State.reset 0xC001 = false ∧ target State.reset 0xC001 = .cell 0xC001 ∧
    target State.reset 0xFF05 = .reg .tima ∧ target (memWrite State.reset 0xFF05 0x12) 0xFF06 = .reg .tma := by decide

theorem witness_PushThenPopRestores :
    let s := st { r0 with a := 0x12, f := 0xB0, sp := 0xD000 } [] []
    denied s (s.regs.sp - 1) = false ∧ target s (s.regs.sp - 1) = .cell 0xCFFF ∧ denied s (s.regs.sp - 2) = false ∧
    target s (s.regs.sp - 2) = .cell 0xCFFE ∧ s.regs.f.toNat % 16 = 0 := by decide

theorem witness_AccumulatorArithmetic :
    AluSource State.reset (fun op => mkAlu op (.reg .b)) 0 1 ∧ AluSource State.reset (fun op => mkAlu op .atHl) 0xFF 1 ∧
    AluSource State.reset (fun op => mkAluImm op 0x80) 0x80 2 :=
  ⟨.inl ⟨.b, rfl, by decide, rfl⟩, .inr (.inl ⟨rfl, by decide, rfl⟩), .inr (.inr ⟨rfl, rfl⟩)⟩

theorem witness_AccumulatorLogic : AluSource State.reset (fun op => mkAlu op (.reg .l)) 0 1 :=
  .inl ⟨.l, rfl, by decide, rfl⟩

theorem witness_DaaGivesDecimalResults :
    IsBcd (st { r0 with a := 0x99, f := 0x10 } [] []).regs.a ∧ IsBcd 0x99 ∧
    (Instr.adcAD8 0x99, 1) = (.adcAD8 0x99, (st { r0 with a := 0x99, f := 0x10 } [] []).flags.c.toNat) ∧
    (Instr.addAD8 0x99, 0) = (.addAD8 0x99, 0) ∧ (Instr.subD8 0x99, 0) = (.subD8 0x99, 0) :=
  ⟨⟨by decide, by decide⟩, ⟨by decide, by decide⟩, by decide, rfl, rfl⟩

theorem witness_AccumulatorRotates :
    (Instr.rra, RotOp.rr) ∈ [(Instr.rlca, RotOp.rlc), (.rrca, .rrc), (.rla, .rl), (.rra, .rr)] := by decide

theorem witness_Calls :
    condHolds .z (st { r0 with f := 0x80 } [] []).regs.f = true ∧ condHolds .nz (st { r0 with f := 0x80 } [] []).regs.f = false := by
  decide

theorem witness_NopOnlyMovesPc :
    let s := st r0 [0x00] []
    s.fault = none ∧ s.halted = false ∧ s.eiPending = false ∧ s.params.cycles = [] ∧ s.env = [] ∧ memRead s s.regs.pc = 0x00 ∧
    candidate (stepTimer 4 s) = none ∧ s.ime = false := by decide

theorem witness_SystemInstructions :
    State.reset.params.eiDelay = false ∧
    { State.reset with params := { Params.default with eiDelay := true } }.params.eiDelay = true := by decide

theorem witness_CandidateIsLowestRequestedAndEnabled :
    candidate (withInts State.reset 0xE0 0xFF false) = none ∧ candidate (withInts State.reset 0x18 0x1F false) = some .serial := by
  decide

theorem witness_InterruptEntry :
    candidate State.reset = none ∧ State.reset.ime = false ∧ candidate (withInts State.reset 0x10 0x10 true) = some .joypad ∧
    (withInts State.reset 0x10 0x10 true).ime = true := by decide

theorem witness_HaltWakesOnEnabledRequests :
    candidate State.reset = none ∧ candidate (withInts State.reset 0x01 0x01 false) = some .vblank ∧
    (withInts State.reset 0x01 0x01 false).ime = false ∧ candidate (withInts State.reset 0x01 0x01 true) = some .vblank ∧
    (withInts State.reset 0x01 0x01 true).ime = true ∧
    (environmentStep (stepTimer 4 (dmaCountdown 4 { State.reset with halted := true }))).halted = true := by decide

theorem witness_DividerAndDisabledTimer : State.reset.io.tac.getLsbD 2 = false ∧ State.reset.dmaRemaining = 0 := by decide

/-- One tick short of the overflow, and at it. -/
theorem witness_TimerCountsReloadsAndRequests :
    let s := { State.reset with io := { State.reset.io with tac := 0x05, tima := 0xFE } }
    s.io.tac.getLsbD 2 = true ∧ (s.timaAcc + 31) / 16 < 256 - s.io.tima.toNat ∧ 256 - s.io.tima.toNat ≤ (s.timaAcc + 32) / 16 := by
  decide

theorem witness_EnvironmentKeepsToItsLiberties :
    let s := { withInts State.reset 0x04 0x00 false with env := [[.request .vblank, .writeIo 0x04 0x55, .writeIo 0x01 0x66]] }
    s.io.ifReg.getLsbD 2 = true ∧ (environmentStep s).io.ifReg = 0x05 ∧ (environmentStep s).io.div = 0x00 ∧
    (environmentStep s).mem.read 0xFF01 = 0x66 := by decide

end Sys2Proof.Tests
end

section
/-! The low nibble of F (10_state.md R24): F changes only by the flag write and by POP AF, and both clear bits 3:0, so
`exec_keeps` and `step_keeps` carry the fact over every instruction and every step. -/

namespace Sys2Proof.Machine

/-- The low nibble as a remainder and as a mask. -/
theorem toNat_mod_16_eq_zero_iff (b : Byte) : b.toNat % 16 = 0 ↔ b &&& 0x0F = 0 := by
  have mask : (b &&& 0x0F).toNat = b.toNat % 16 := Nat.and_two_pow_sub_one_eq_mod b.toNat 4
  rw [← mask]
  exact BitVec.toNat_inj (y := 0)

theorem Flags.toByte_toNat_mod_16 (fl : Flags) : fl.toByte.toNat % 16 = 0 :=
  (toNat_mod_16_eq_zero_iff _).2 fl.toByte_low

theorem and_0xF0_toNat_mod_16 (b : Byte) : (b &&& 0xF0).toNat % 16 = 0 := by
  rw [toNat_mod_16_eq_zero_iff, BitVec.and_assoc]
  exact BitVec.and_zero

/-- F is still the byte `f`, or its low nibble is zero. -/
def FKeptOrLowZero (f : Byte) (s : State) : Prop := s.regs.f = f ∨ s.regs.f.toNat % 16 = 0

variable {f : Byte} {s t : State}

theorem FKeptOrLowZero.of_f_eq (h : t.regs.f = s.regs.f) (hs : FKeptOrLowZero f s) : FKeptOrLowZero f t := by
  unfold FKeptOrLowZero
  rwa [h]

theorem FKeptOrLowZero.of_regs_eq (h : t.regs = s.regs) : FKeptOrLowZero f s → FKeptOrLowZero f t :=
  .of_f_eq (congrArg Regs.f h)

theorem FKeptOrLowZero.setStk (r : Stk16) (w : Word) (hs : FKeptOrLowZero f s) : FKeptOrLowZero f (s.setStk r w) := by
  cases r with
  | bc => exact hs.of_f_eq (s.setBc_regs_f w)
  | de => exact hs.of_f_eq (s.setDe_regs_f w)
  | hl => exact hs.of_f_eq (s.setHl_regs_f w)
  | af => exact .inr (and_0xF0_toNat_mod_16 (loByte w))

theorem FKeptOrLowZero.keptByExec (f : Byte) : KeptByExec (FKeptOrLowZero f) where
  setR8 s r v := .of_f_eq (s.setR8_regs_f r v)
  setR16 s r w := .of_f_eq (s.setR16_regs_f r w)
  setStk _ r w := .setStk r w
  setFlags _ fl _ := .inr fl.toByte_toNat_mod_16
  setSp s w := .of_f_eq (s.setSp_regs_f w)
  setPc s w := .of_f_eq (s.setPc_regs_f w)
  write s a v := .of_regs_eq (memWrite_regs s a v)
  halt _ := .of_regs_eq rfl
  di _ := .of_regs_eq rfl
  ei _ hs _ := hs.of_regs_eq rfl
  eiDelay _ hs _ := hs.of_regs_eq rfl
  fatal _ _ := .of_regs_eq rfl

theorem FKeptOrLowZero.returnFromInterrupt (s : State) (hs : FKeptOrLowZero f s) :
    FKeptOrLowZero f (Machine.returnFromInterrupt s) := hs.of_f_eq rfl

theorem FKeptOrLowZero.keptByClose (f : Byte) : KeptByClose (FKeptOrLowZero f) where
  settle s t _ ht := by
    unfold settleEi
    split
    · exact ht.of_regs_eq rfl
    · exact ht
  countdown _ _ := .of_regs_eq rfl
  timer s c := .of_regs_eq (stepTimer_regs c s)
  event s e := .of_regs_eq (envEvent_regs s e)
  schedule _ _ := .of_regs_eq rfl
  wake _ := .of_regs_eq rfl
  accept _ _ := .of_regs_eq rfl

theorem exec_f_kept_or_low_zero {i : Instr} (h : exec i s = .next t) :
    t.regs.f = s.regs.f ∨ t.regs.f.toNat % 16 = 0 := by
  obtain ⟨u, hu, hf⟩ := exec_keeps (FKeptOrLowZero.keptByExec s.regs.f) i s (.inl rfl) fun _ => .returnFromInterrupt s (.inl rfl)
  cases hu.symm.trans h
  exact hf

theorem step_f_kept_or_low_zero (h : step s = .next t) : t.regs.f = s.regs.f ∨ t.regs.f.toNat % 16 = 0 :=
  step_keeps (FKeptOrLowZero.keptByExec s.regs.f) FKeptOrLowZero.returnFromInterrupt (FKeptOrLowZero.keptByClose _)
    (.inl rfl) h

/-- POP AF takes F from the byte at SP, the low one of the popped word (41_load16_stack.md R160, R167). -/
theorem popReg_af_regs_f (s : State) : (popReg .af s).regs.f = memRead s s.regs.sp &&& 0xF0 := by
  change loByte (pop16 s).1 &&& 0xF0 = _
  rw [pop16_fst, loByte_wordOf]

end Sys2Proof.Machine

open Sys2Proof Sys2Proof.Machine

/-- Settles O15: only the flag write and POP AF change F, and both clear its low nibble; so an instruction or a step keeps
F or leaves its low nibble zero. -/
theorem flagLowNibbleStaysZero : Obligations.FlagLowNibbleStaysZero := by
  unfold Obligations.FlagLowNibbleStaysZero
  refine ⟨rfl, fun s t hs h => ?_, fun _ _ _ => exec_f_kept_or_low_zero, fun s => ⟨_, rfl, popReg_af_regs_f s⟩⟩
  rcases step_f_kept_or_low_zero h with hf | hf
  · rwa [hf]
  · exact hf

end

section
/-! The address map region by region (20_memory.md R55), the gates as the conditions of R70 and R72, and what a raw
access of a target reads and writes. The statements about the regions of memory follow from these rules. -/

namespace Sys2Proof.Machine

variable {s : State} {a b : Word} {k : Nat}

/-! ### The address map -/

theorem target_overlay (ha : a.toNat < 0x100) (hb : s.hasBooted = false) :
    target s a = .rom (bootRomBase + a.toNat) := if_pos ⟨ha, hb⟩

theorem target_fixedBank (ha : a.toNat < 0x4000) (hb : s.hasBooted = true ∨ 0x100 ≤ a.toNat) :
    target s a = .rom (cartRomBase + a.toNat) := by
  have overlay_off : ¬ (a.toNat < 0x100 ∧ s.hasBooted = false) := by
    rintro ⟨h, hf⟩
    rcases hb with hb | hb
    · simp [hb] at hf
    · omega
  simp only [target, if_neg overlay_off, if_pos ha]

/-- Every address below 0x4000 names a byte of a ROM image. -/
theorem target_below_0x4000 (s : State) (ha : a.toNat < 0x4000) : ∃ k, target s a = .rom k := by
  cases hb : s.hasBooted with
  | true => exact ⟨_, target_fixedBank ha (.inl hb)⟩
  | false =>
    rcases Nat.lt_or_ge a.toNat 0x100 with h | h
    · exact ⟨_, target_overlay h hb⟩
    · exact ⟨_, target_fixedBank ha (.inr h)⟩

theorem target_switchableBank (hlo : 0x4000 ≤ a.toNat) (hhi : a.toNat < 0x8000) :
    target s a = .rom (cartRomBase + 0x4000 * romBank s.mbc + (a.toNat - 0x4000)) := by
  have overlay_off : ¬ (a.toNat < 0x100 ∧ s.hasBooted = false) := by omega
  simp only [target, if_neg overlay_off, if_neg (Nat.not_lt.2 hlo), if_pos hhi, Target.rom.injEq]
  omega

/-- Video RAM, work RAM, OAM and high RAM (R64, R65, R67, R83). -/
def IsPlainRam (a : Word) : Prop :=
  (0x8000 ≤ a.toNat ∧ a.toNat ≤ 0x9FFF) ∨ (0xC000 ≤ a.toNat ∧ a.toNat ≤ 0xDFFF) ∨
    (0xFE00 ≤ a.toNat ∧ a.toNat ≤ 0xFE9F) ∨ (0xFF80 ≤ a.toNat ∧ a.toNat ≤ 0xFFFE)

theorem IsPlainRam.ge (ha : IsPlainRam a) : 0x8000 ≤ a.toNat := by
  unfold IsPlainRam at ha
  omega

theorem ioRegAt_highRam {n : Nat} (hlo : 0xFF80 ≤ n) (hhi : n ≤ 0xFFFE) : ioRegAt n = none := by
  unfold ioRegAt
  repeat rw [if_neg (by omega)]

theorem target_plainRam (ha : IsPlainRam a) : target s a = .cell a.toNat := by
  rcases ha with h | h | h | h <;> simp (disch := omega) only [target, if_neg, if_pos, ioRegAt_highRam]

theorem target_echo (hlo : 0xE000 ≤ a.toNat) (hhi : a.toNat < 0xFE00) : target s a = .cell (a.toNat - 0x2000) := by
  simp (disch := omega) only [target, if_neg, if_pos]

/-- Only its own address names a cell of the part of work RAM that has no echo (R66). -/
theorem toNat_eq_of_target_unechoed (ht : target s b = .cell k) (hlo : 0xDE00 ≤ k) (hhi : k ≤ 0xDFFF) :
    b.toNat = k := by
  simp only [target] at ht
  repeat' split at ht
  all_goals simp only [Target.cell.injEq, reduceCtorEq, extramBase] at ht
  all_goals omega

/-! ### The gates -/

theorem dmaDenied_iff :
    dmaDenied s a = true ↔ s.dmaRemaining > 0 ∧ ¬ (0xFF80 ≤ a.toNat ∧ a.toNat ≤ 0xFFFE) := by
  rw [dmaDenied, inHighRam, Bool.and_eq_true, Bool.not_eq_true', decide_eq_true_eq, decide_eq_false_iff_not]

theorem lcdDenied_iff :
    lcdDenied s a = true ↔
      (lcdOn s = true ∧ (0x8000 ≤ a.toNat ∧ a.toNat ≤ 0x9FFF) ∧ lcdMode s = 3) ∨
      (lcdOn s = true ∧ (0xFE00 ≤ a.toNat ∧ a.toNat ≤ 0xFE9F) ∧ (lcdMode s = 2 ∨ lcdMode s = 3)) := by
  simp [lcdDenied, and_or_left]

theorem denied_iff :
    denied s a = true ↔
      (s.dmaRemaining > 0 ∧ ¬ (0xFF80 ≤ a.toNat ∧ a.toNat ≤ 0xFFFE)) ∨
      (lcdOn s = true ∧ (0x8000 ≤ a.toNat ∧ a.toNat ≤ 0x9FFF) ∧ lcdMode s = 3) ∨
      (lcdOn s = true ∧ (0xFE00 ≤ a.toNat ∧ a.toNat ≤ 0xFE9F) ∧ (lcdMode s = 2 ∨ lcdMode s = 3)) := by
  rw [denied, Bool.or_eq_true, dmaDenied_iff, lcdDenied_iff]

/-- Outside the lockout the gates guard video RAM and OAM only. -/
theorem denied_eq_false (hd : s.dmaRemaining = 0 ∨ (0xFF80 ≤ a.toNat ∧ a.toNat ≤ 0xFFFE))
    (hv : a.toNat < 0x8000 ∨ 0x9FFF < a.toNat) (ho : a.toNat < 0xFE00 ∨ 0xFE9F < a.toNat) : denied s a = false := by
  rw [Bool.eq_false_iff, ne_eq, denied_iff]
  omega

/-- R70: video RAM is closed in pixel transfer. -/
theorem denied_videoRam (ha : 0x8000 ≤ a.toNat ∧ a.toNat ≤ 0x9FFF) (hd : s.dmaRemaining = 0) :
    denied s a = (lcdOn s && decide (lcdMode s = 3)) := by
  have not_oam : ¬ (0xFE00 ≤ a.toNat ∧ a.toNat ≤ 0xFE9F) := by omega
  rw [Bool.eq_iff_iff, denied_iff]
  simp [hd, ha, not_oam]

/-- R70: OAM is closed in OAM search and in pixel transfer. -/
theorem denied_oam (ha : 0xFE00 ≤ a.toNat ∧ a.toNat ≤ 0xFE9F) (hd : s.dmaRemaining = 0) :
    denied s a = (lcdOn s && decide (lcdMode s = 2 ∨ lcdMode s = 3)) := by
  have not_vram : ¬ (0x8000 ≤ a.toNat ∧ a.toNat ≤ 0x9FFF) := by omega
  rw [Bool.eq_iff_iff, denied_iff]
  simp [hd, ha, not_vram]

theorem memRead_of_not_denied (hd : denied s a = false) : memRead s a = rawRead s a := by simp [memRead, hd]

theorem memWrite_of_not_denied (v : Byte) (hd : denied s a = false) : memWrite s a v = rawWrite s a v := by
  simp [memWrite, hd]

/-! ### Raw accesses -/

theorem rawRead_cell (ht : target s a = .cell k) : rawRead s a = s.mem.read k := by simp [rawRead, ht]

theorem rawRead_rom (ht : target s a = .rom k) : rawRead s a = s.mem.read k := by simp [rawRead, ht]

theorem rawWrite_below_0x8000 (v : Byte) (ha : a.toNat < 0x8000) :
    rawWrite s a v = { s with mbc := mbcCommand s.mbc a v } := if_pos ha

theorem rawWrite_cell (v : Byte) (ha : 0x8000 ≤ a.toNat) (ht : target s a = .cell k) :
    rawWrite s a v = s.storeCell k v := by
  simp [rawWrite, ht, Nat.not_lt.2 ha]

@[simp] theorem target_storeCell (j : Nat) (v : Byte) : target (s.storeCell j v) a = target s a := rfl

theorem rawRead_storeCell_same (v : Byte) (ht : target s b = .cell k) : rawRead (s.storeCell k v) b = v := by
  rw [rawRead_cell (target_storeCell k v ▸ ht)]
  exact Memory.read_write_same _ _ _

/-- A stored byte changes no read of another cell, and none of a ROM image. -/
theorem rawRead_storeCell_ne (v : Byte) (hk : k < bootRomBase) (ht : target s b ≠ .cell k) :
    rawRead (s.storeCell k v) b = rawRead s b := by
  unfold rawRead
  rw [target_storeCell]
  cases hb : target s b with
  | cell j => exact Memory.read_write_ne _ _ _ _ fun h => ht (h ▸ hb)
  | rom j =>
    have hj : bootRomBase ≤ j := target_rom_ge hb
    exact Memory.read_write_ne _ _ _ _ (by omega)
  | reg r => cases r <;> rfl
  | extramOff => rfl
  | unusable => rfl

/-! ### The OAM-DMA copy reads its source raw (R74, R75) -/

/-- Byte `i` of OAM after the copy is the one the copy read when the bytes before it were in place. -/
theorem copyToOam_read_copied (v : Byte) {i n : Nat} (hi : i < n) :
    (copyToOam v n s).read (oamKey i) = rawRead { s with mem := copyToOam v i s } (wordOf v 0 + BitVec.ofNat 16 i) := by
  induction n with
  | zero => omega
  | succ n ih =>
    rcases Nat.lt_succ_iff_lt_or_eq.1 hi with h | rfl
    · rw [copyToOam, Memory.read_write_ne _ _ _ _ (by simp only [oamKey]; omega), ih h]
    · exact Memory.read_write_same _ _ _

/-- A source byte in a ROM image is copied as it stood before the transfer, which writes no ROM cell. -/
theorem copyToOam_read_rom (v : Byte) {i n : Nat} (hi : i < n) (hn : n ≤ 160)
    (ht : target s (wordOf v 0 + BitVec.ofNat 16 i) = .rom k) :
    (copyToOam v n s).read (oamKey i) = s.mem.read k := by
  have hk : bootRomBase ≤ k := target_rom_ge ht
  rw [copyToOam_read_copied v hi]
  calc rawRead { s with mem := copyToOam v i s } (wordOf v 0 + BitVec.ofNat 16 i)
      = (copyToOam v i s).read k := rawRead_rom ht
    _ = s.mem.read k := copyToOam_read v i s k (.inr (by simp only [bootRomBase] at hk; omega))

theorem startDma_mem (v : Byte) (s : State) :
    (startDma v s).mem = copyToOam v 160 { s with io := { s.io with dma := v } } := by
  unfold startDma
  generalize 160 = n
  rfl

/-- A transfer from page 0 puts what a raw read of the page returns into OAM. -/
theorem startDma_page0_read {i : Nat} (hi : i < 160) :
    (startDma 0 s).mem.read (oamKey i) = rawRead s (BitVec.ofNat 16 i) := by
  have source : wordOf 0 0 + BitVec.ofNat 16 i = BitVec.ofNat 16 i := BitVec.zero_add _
  have in_rom : (BitVec.ofNat 16 i).toNat < 0x4000 := by
    rw [BitVec.toNat_ofNat]
    omega
  obtain ⟨k, ht⟩ := target_below_0x4000 s in_rom
  rw [rawRead_rom ht, startDma_mem]
  rw [← source] at ht
  exact copyToOam_read_rom 0 hi (Nat.le_refl 160) ht

/-! ### Gated writes to BOOT and DMA (R74, R80) -/

theorem memWrite_boot (v : Byte) (hd : s.dmaRemaining = 0) : memWrite s 0xFF50 v = writeIoReg s .boot v := by
  rw [memWrite_of_not_denied v (denied_eq_false (.inl hd) (by decide) (by decide))]
  rfl

theorem memWrite_dma (v : Byte) (hd : s.dmaRemaining = 0) : memWrite s 0xFF46 v = startDma v s := by
  rw [memWrite_of_not_denied v (denied_eq_false (.inl hd) (by decide) (by decide))]
  rfl

/-! ### Writes below 0x8000 -/

/-- A gated write below 0x8000 changes the bank latches at most (R59, R60). -/
theorem memWrite_below_0x8000 (v : Byte) (ha : a.toNat < 0x8000) :
    memWrite s a v = { s with mbc := (memWrite s a v).mbc } := by
  rcases memWrite_cases s a v with h | ⟨-, h⟩
  · rw [h]
  · rw [h, rawWrite_below_0x8000 v ha]

/-- The bank latches select no byte below 0x4000 (R57). -/
theorem rawRead_mbc_below_0x4000 (m : Mbc) (hb : b.toNat < 0x4000) : rawRead { s with mbc := m } b = rawRead s b := by
  have same_target : target { s with mbc := m } b = target s b := by simp only [target, if_pos hb]
  obtain ⟨k, ht⟩ := target_below_0x4000 s hb
  rw [rawRead_rom (same_target.trans ht), rawRead_rom ht]

theorem rawRead_switchableBank (hlo : 0x4000 ≤ b.toNat) (hhi : b.toNat < 0x8000) :
    rawRead s b = s.mem.read (cartRomBase + 0x4000 * romBank s.mbc + (b.toNat - 0x4000)) :=
  rawRead_rom (target_switchableBank hlo hhi)

/-! ### Plain storage and the echo of work RAM -/

theorem rawWrite_plainRam (s : State) (v : Byte) (ha : IsPlainRam a) : rawWrite s a v = s.storeCell a.toNat v :=
  rawWrite_cell v ha.ge (target_plainRam ha)

theorem toNat_echo (ha : 0xC000 ≤ a.toNat ∧ a.toNat ≤ 0xDDFF) : (a + 0x2000).toNat = a.toNat + 0x2000 := by
  bv_omega

/-- The echo of an address of work RAM names the same cell (R66). -/
theorem target_add_0x2000 (ha : 0xC000 ≤ a.toNat ∧ a.toNat ≤ 0xDDFF) : target s (a + 0x2000) = .cell a.toNat := by
  have he := toNat_echo ha
  rw [target_echo (by omega) (by omega), he, Nat.add_sub_cancel]

end Sys2Proof.Machine

open Sys2Proof Sys2Proof.Machine

/-- Settles O18: the gated access tests one disjunction, and its three parts in their order are R51's and R52's cases. -/
theorem gatedAccessChecksInOrder : Obligations.GatedAccessChecksInOrder := by
  unfold Obligations.GatedAccessChecksInOrder
  intro s a v
  simp only [memRead, memWrite, denied_iff, ite_or, and_self]

/-- Settles O20: below 0x4000 an address names a byte of one of the two images, which neither the copy into OAM nor the
gates reach. -/
theorem bootOverlayAndFixedBank : Obligations.BootOverlayAndFixedBank := by
  unfold Obligations.BootOverlayAndFixedBank
  refine ⟨fun s a ha => ⟨?_, fun v b => ?_, fun hd => ?_⟩, fun s hd => ⟨?_, fun i hi => ?_⟩, fun s a hlo hhi => ?_⟩
  · split
    next hb => exact rawRead_rom (target_overlay ha hb)
    next hb => exact rawRead_rom (target_fixedBank (by omega) (.inl (Bool.eq_true_of_not_eq_false hb)))
  · rw [rawWrite_below_0x8000 v (by omega), rawWrite_below_0x8000 v (by omega)]
  · exact memRead_of_not_denied (denied_eq_false (.inl hd) (by omega) (by omega))
  · rw [memWrite_boot 0x01 hd]
    rfl
  · rw [memWrite_dma 0x00 hd]
    exact startDma_page0_read hi
  · exact rawRead_rom (target_fixedBank hhi (.inr hlo))

/-- Settles O23: the write changes the bank latches at most, and of the latches a ROM read sees only the bank from 0x4000
on. -/
theorem romIsOnlyACommandSink : Obligations.RomIsOnlyACommandSink := by
  unfold Obligations.RomIsOnlyACommandSink
  intro s a v ha
  have latches := memWrite_below_0x8000 (s := s) v ha
  generalize memWrite s a v = t at latches ⊢
  refine ⟨latches, congrArg (rawRead · a) latches, fun b hb => ?_, fun b hlo hhi => ?_⟩
  · rw [latches]
    exact rawRead_mbc_below_0x4000 t.mbc hb
  · rw [rawRead_switchableBank hlo hhi, latches]

/-- Settles O24: each address of the four regions names its own cell, and the gates close video RAM and OAM only. -/
theorem plainStorageRegions : Obligations.PlainStorageRegions := by
  unfold Obligations.PlainStorageRegions
  refine ⟨fun s a v ha => ?_, fun _ _ => denied_videoRam, fun _ _ => denied_oam,
    fun _ _ ha hd => denied_eq_false (.inl hd) (by omega) (by omega),
    fun _ _ ha => denied_eq_false (.inr ha) (by omega) (by omega)⟩
  have ht : target s a = .cell a.toNat := target_plainRam ha
  rw [rawWrite_plainRam s v ha]
  exact ⟨rawRead_cell ht, rfl, rawRead_storeCell_same v ht, fun k hk => Memory.read_write_ne _ _ _ _ hk⟩

/-- Settles O25: an address of work RAM and its echo name one cell; a cell without an echo has one name. -/
theorem echoRamIsWorkRam : Obligations.EchoRamIsWorkRam := by
  unfold Obligations.EchoRamIsWorkRam
  refine ⟨fun s a v ha => ?_, fun s a b v ha hne => ?_⟩
  · have plain : IsPlainRam a := .inr (.inl (by omega))
    have ht : target s a = .cell a.toNat := target_plainRam plain
    have hte : target s (a + 0x2000) = .cell a.toNat := target_add_0x2000 ha
    have hge : 0x8000 ≤ (a + 0x2000).toNat := by
      rw [toNat_echo ha]
      omega
    rw [rawWrite_plainRam s v plain, rawWrite_cell v hge hte]
    exact ⟨rawRead_storeCell_same v hte, rawRead_storeCell_same v ht, rfl, (rawRead_cell hte).trans (rawRead_cell ht).symm⟩
  · have other_cell : target s b ≠ .cell a.toNat := fun hb =>
      hne (BitVec.eq_of_toNat_eq (toNat_eq_of_target_unechoed hb ha.1 ha.2))
    rw [rawWrite_plainRam s v (.inr (.inl (by omega)))]
    exact rawRead_storeCell_ne v (by simp only [bootRomBase]; omega) other_cell

end

section
/-! IME (10_state.md section 5): no shared operation but EI's, DI's and RETI's writes it, an interrupt entry only clears it,
and the bytes of EI and RETI are theirs alone. -/

namespace Sys2Proof

/-- The first byte of an extended instruction's encoding is 0xCB, whatever the second byte is. -/
theorem encode_decodeExtended_head? (op2 : Byte) : (encode (decodeExtended op2)).head? = some 0xCB := by
  apply byte_cases (b := op2)
  intro n
  fin_cases n <;> rfl

/-- An instruction's encoding begins with the opcode it was decoded from (30_encoding.md R100, R111). -/
theorem encode_decodeBytes_head? (op b1 b2 : Byte) : (encode (decodeBytes op b1 b2)).head? = some op := by
  apply byte_cases (b := op)
  intro n
  fin_cases n
  -- The goals stand in the order of the opcodes from 0x00 on; only that of 0xCB looks at the second byte.
  pick_goal 204
  · exact encode_decodeExtended_head? b1
  all_goals rfl

theorem opcode_eq_of_decodeBytes_eq {op b1 b2 c : Byte} {i : Instr} (h : decodeBytes op b1 b2 = i)
    (hi : encode i = [c]) : op = c := by
  have head := encode_decodeBytes_head? op b1 b2
  rw [h, hi] at head
  exact (Option.some.inj head).symm

end Sys2Proof

namespace Sys2Proof.Machine

variable {s t : State} {i : Instr}

@[simp] theorem State.setOpd8_ime (s : State) (x : Opd8) (v : Byte) : (s.setOpd8 x v).ime = s.ime := by
  cases x with
  | reg r => exact s.setR8_ime r v
  | atHl => exact memWrite_ime s s.hl v

@[simp] theorem extendedPage_ime (op2 : Byte) (s : State) : (extendedPage op2 s).ime = s.ime := by
  unfold extendedPage
  split <;> simp [rotateOpd, bitTest, bitReset, bitSet]

/-- Every instruction but EI, DI and RETI leaves IME: its operation writes registers and PC, memory through the gate, or
`halted` or `fault`. -/
theorem exec_ime (hei : i ≠ .ei) (hdi : i ≠ .di) (hreti : i ≠ .reti) : ∃ t, exec i s = .next t ∧ t.ime = s.ime := by
  cases i <;> refine ⟨_, rfl, ?_⟩
  case ei | di | reti => contradiction
  all_goals simp [loadRegReg, loadRegMem, loadRegImm, storeReg, storeImm, storeA, loadA, storeAStep, loadAStep, load16Imm,
    storeSp, memWrite16, loadSpHl, loadHlSpDisp, pushReg, popReg, pop16_snd, aluOpd, aluImm, aluApply, inc8, dec8,
    decimalAdjust, complementA, setCarry, complementCarry, addHl, addSpDisp, inc16, dec16, rotateA, rotateOpd, bitTest,
    bitReset, bitSet, jumpAbs, jumpAbsIf, jumpHl, jumpRel, jumpRelIf, callAbs, callAbsIf, returnNear, returnIf, restart,
    noOperation, enterHalt, raiseFatal, apply_ite State.ime]

/-- An instruction that sets IME is EI or RETI (46_system.md R275, 45_control_flow.md R259). -/
theorem eq_ei_or_reti_of_exec_sets_ime (hs : s.ime = false) (h : exec i s = .next t) (ht : t.ime = true) :
    i = .ei ∨ i = .reti := by
  by_contra! hne
  obtain ⟨hei, hreti⟩ := hne
  have clear : t.ime = false := by
    rcases eq_or_ne i .di with rfl | hdi
    · cases h
      rfl
    · obtain ⟨u, hu, hime⟩ := exec_ime (s := s) hei hdi hreti
      cases hu.symm.trans h
      exact hime.trans hs
  exact Bool.noConfusion (clear.symm.trans ht)

theorem settleEi_of_not_pending (t : State) (hs : s.eiPending = false) : settleEi s t = t := by simp [settleEi, hs]

theorem serviceInterrupts_ime (hs : s.ime = false) : (serviceInterrupts s).ime = false := by
  rcases serviceInterrupts_cases s with h | ⟨i, -, -, h⟩ <;> rw [h]
  · exact hs
  · exact takeInterrupt_ime i s

theorem serviceHaltInterrupts_ime (hs : s.ime = false) : (serviceHaltInterrupts s).ime = false := by
  rcases serviceHaltInterrupts_cases s with ⟨-, h⟩ | ⟨i, -, -, h⟩ | ⟨i, -, -, h⟩ <;> rw [h]
  · exact hs
  · exact hs
  · exact takeInterrupt_ime i _

/-- What closes a step never sets IME: the countdown, the timer and the environment leave it, the scan at most clears it
(60_exceptions.md R306, R310). -/
theorem closeStep_ime (c : Nat) (hs : s.ime = false) : (closeStep c s).ime = false := by
  have before_scan : (environmentStep (stepTimer c (dmaCountdown c s))).ime = false := by simpa [dmaCountdown] using hs
  simp only [closeStep]
  split
  · exact serviceHaltInterrupts_ime before_scan
  · exact serviceInterrupts_ime before_scan

/-- Everything a step can be: the idle step of a halted core, an instruction that raised a fatal fault, or an instruction
and the step's close (60_exceptions.md R331). -/
theorem step_cases (h : step s = .next t) :
    (s.halted = true ∧ t = closeStep s.params.haltIdleCycles s) ∨
    (s.halted = false ∧ ∃ u, exec (decodeAt s s.regs.pc) s = .next u ∧
      (u.fault.isSome = true ∧ t = u ∨ u.fault = none ∧ t = closeStep (cyclesOf (decodeAt s s.regs.pc) s) (settleEi s u))) := by
  obtain ⟨u, hu⟩ := exec_next (decodeAt s s.regs.pc) s
  unfold step at h
  split at h
  · cases h
  · cases hh : s.halted with
    | true =>
      simp only [hh, if_true] at h
      cases h
      exact .inl ⟨rfl, rfl⟩
    | false =>
      simp only [hh, hu, Bool.false_eq_true, if_false] at h
      cases h
      refine .inr ⟨rfl, u, hu, ?_⟩
      cases hf : u.fault with
      | some k => exact .inl ⟨rfl, by simp [finishInstr, hf]⟩
      | none => exact .inr ⟨rfl, by simp [finishInstr, hf]⟩

end Sys2Proof.Machine

open Sys2Proof Sys2Proof.Machine

/-- Settles O17: the close of a step sets no IME, so with no EI waiting the executed instruction set it, and that is EI or
RETI, whose first bytes are 0xFB and 0xD9. -/
theorem imeIsSetOnlyByEiAndReti : Obligations.ImeIsSetOnlyByEiAndReti := by
  unfold Obligations.ImeIsSetOnlyByEiAndReti
  intro s t _ hs h ht
  have close_clear : ∀ c u, t = closeStep c u → u.ime ≠ false := by
    rintro c u rfl hu
    exact Bool.noConfusion ((closeStep_ime c hu).symm.trans ht)
  rcases step_cases h with ⟨-, hidle⟩ | ⟨running, u, hu, hend⟩
  · exact absurd hs (close_clear _ _ hidle)
  · refine ⟨running, ?_⟩
    cases hp : s.eiPending with
    | true => exact .inr (.inr rfl)
    | false =>
      have hime : u.ime = true := by
        rcases hend with ⟨-, rfl⟩ | ⟨-, hclose⟩
        · exact ht
        · rw [settleEi_of_not_pending u hp] at hclose
          exact Bool.eq_true_of_not_eq_false (close_clear _ _ hclose)
      rcases eq_ei_or_reti_of_exec_sets_ime hs hu hime with hi | hi
      · exact .inl (opcode_eq_of_decodeBytes_eq hi rfl)
      · exact .inr (.inl (opcode_eq_of_decodeBytes_eq hi rfl))

end

section
/-! A step that ends without an interrupt and without an act of the environment, and what NOP makes of it (46_system.md
R270). -/

namespace Sys2Proof.Machine

variable {s u : State} {i : Instr}

/-! ### The timer reads neither the register file nor the lockout -/

/-- The register file and the lockout's counter replaced: what NOP and the countdown write. -/
def State.withRegsAndLockout (s : State) (r : Regs) (n : Nat) : State := { s with regs := r, dmaRemaining := n }

theorem timerTick_withRegsAndLockout (s : State) (r : Regs) (n : Nat) :
    timerTick (s.withRegsAndLockout r n) = (timerTick s).withRegsAndLockout r n := by
  unfold timerTick
  change (if s.io.tima = 0xFF then _ else _) = _
  split <;> rfl

theorem timerTicks_withRegsAndLockout (k : Nat) (s : State) (r : Regs) (n : Nat) :
    timerTicks k (s.withRegsAndLockout r n) = (timerTicks k s).withRegsAndLockout r n := by
  induction k generalizing s with
  | zero => rfl
  | succ k ih => rw [timerTicks, timerTick_withRegsAndLockout, ih, timerTicks]

theorem stepTimer_withRegsAndLockout (c : Nat) (s : State) (r : Regs) (n : Nat) :
    stepTimer c (s.withRegsAndLockout r n) = (stepTimer c s).withRegsAndLockout r n := by
  have divider : stepDivider c (s.withRegsAndLockout r n) = (stepDivider c s).withRegsAndLockout r n := rfl
  unfold stepTimer
  rw [divider]
  generalize stepDivider c s = d
  unfold stepTima
  change (if d.io.tac.getLsbD 2 then _ else _) = _
  split
  · rw [timerTicks_withRegsAndLockout]
    rfl
  · rfl

/-! ### A step without an interrupt or an act of the environment -/

theorem environmentStep_of_no_schedule (h : s.env = []) : environmentStep s = s := by simp [environmentStep, h]

theorem serviceInterrupts_of_none_to_take (h : candidate s = none ∨ s.ime = false) : serviceInterrupts s = s := by
  rcases serviceInterrupts_cases s with hs | ⟨i, hc, hime, -⟩
  · exact hs
  · simp [hc, hime] at h

/-- With nothing scheduled and no interrupt to take, the countdown and the timer close a step of a running core
(60_exceptions.md R331). -/
theorem closeStep_of_none_to_take (c : Nat) (henv : s.env = []) (hrun : s.halted = false)
    (hq : candidate (stepTimer c s) = none ∨ s.ime = false) :
    closeStep c s = (stepTimer c s).withRegsAndLockout s.regs (s.dmaRemaining - min c s.dmaRemaining) := by
  have timer : stepTimer c (dmaCountdown c s) =
      (stepTimer c s).withRegsAndLockout s.regs (s.dmaRemaining - min c s.dmaRemaining) :=
    stepTimer_withRegsAndLockout c s s.regs _
  have environment : environmentStep (stepTimer c (dmaCountdown c s)) = stepTimer c (dmaCountdown c s) :=
    environmentStep_of_no_schedule (by simpa [dmaCountdown] using henv)
  have running : (stepTimer c (dmaCountdown c s)).halted = false := by simpa [dmaCountdown] using hrun
  simp only [closeStep, environment, running, Bool.false_eq_true, if_false]
  rw [timer]
  refine serviceInterrupts_of_none_to_take (hq.imp id fun hime => ?_)
  exact (stepTimer_ime c s).trans hime

/-- With no EI waiting, a step is its instruction, which raised no fault, and the close with the instruction's cycles. -/
theorem step_of_exec (hf : s.fault = none) (hh : s.halted = false) (hp : s.eiPending = false)
    (hi : decodeAt s s.regs.pc = i) (hu : exec i s = .next u) (huf : u.fault = none) :
    step s = .next (closeStep (cyclesOf i s) u) := by
  simp [step, hf, hh, hi, hu, finishInstr, huf, settleEi_of_not_pending u hp]

/-! ### NOP -/

theorem decodeBytes_nop (b1 b2 : Byte) : decodeBytes 0x00 b1 b2 = .nop := rfl

theorem exec_nop (s : State) : exec .nop s = .next (s.advance 1) := rfl

/-- NOP takes 4 cycles where CYCLES replaces no row (R116, R270). -/
theorem cyclesOf_nop (h : s.params.cycles = []) : cyclesOf .nop s = 4 := by
  rw [cyclesOf_unconditional rfl, costOf_of_no_row (by simp [h])]
  rfl

/-- The step of a NOP: PC moves on by one, 4 cycles reach the timer and the lockout (R270). -/
theorem step_nop (hf : s.fault = none) (hh : s.halted = false) (hp : s.eiPending = false) (hc : s.params.cycles = [])
    (henv : s.env = []) (hop : memRead s s.regs.pc = 0x00) (hq : candidate (stepTimer 4 s) = none ∨ s.ime = false) :
    step s = .next ((stepTimer 4 s).withRegsAndLockout { s.regs with pc := s.regs.pc + 1 }
      (s.dmaRemaining - min 4 s.dmaRemaining)) := by
  have decoded : decodeAt s s.regs.pc = .nop := by
    unfold decodeAt
    rw [hop]
    exact decodeBytes_nop _ _
  have timer : stepTimer 4 (s.advance 1) =
      (stepTimer 4 s).withRegsAndLockout { s.regs with pc := s.regs.pc + 1 } s.dmaRemaining :=
    stepTimer_withRegsAndLockout 4 s _ _
  have close : closeStep 4 (s.advance 1) = _ := closeStep_of_none_to_take 4 henv hh (by rw [timer]; exact hq)
  rw [step_of_exec hf hh hp decoded (exec_nop s) hf, cyclesOf_nop hc, close, timer]
  rfl

end Sys2Proof.Machine

open Sys2Proof Sys2Proof.Machine

/-- Settles O51: NOP advances PC, and the close of its step is the countdown and the timer, which read neither the
registers nor each other. -/
theorem nopOnlyMovesPc : Obligations.NopOnlyMovesPc := by
  unfold Obligations.NopOnlyMovesPc
  refine ⟨decodeBytes_nop, rfl, rfl, fun s => ⟨_, exec_nop s, rfl, rfl, fun _ => rfl⟩, ?_⟩
  intro s hf hh hp hc henv hop hq
  exact ⟨_, step_nop hf hh hp hc henv hop hq, stepTimer_divAcc 4 s, rfl, rfl, rfl, rfl, stepTimer_mem 4 s⟩

end

section
/-! The fatal faults (60_exceptions.md R300, R301): the close of a step raises none and no instruction does but UNDEFINED
and STOP, whose bytes are theirs alone. -/

namespace Sys2Proof

/-! ### The bytes of UNDEFINED and of STOP -/

theorem wellFormed_decodeExtended (op2 : Byte) : (decodeExtended op2).wellFormed = true := by
  apply byte_cases (b := op2)
  intro n
  fin_cases n <;> rfl

/-- The decoder answers well-formed instructions only (30_encoding.md R109, R111). -/
theorem wellFormed_decodeBytes (op b1 b2 : Byte) : (decodeBytes op b1 b2).wellFormed = true := by
  apply byte_cases (b := op)
  intro n
  fin_cases n
  -- The goals stand in the order of the opcodes from 0x00 on; only that of 0xCB looks at the second byte.
  pick_goal 204
  · exact wellFormed_decodeExtended b1
  all_goals rfl

theorem decodeBytes_of_mem_undefinedOpcodes {op : Byte} (h : op ∈ undefinedOpcodes) (b1 b2 : Byte) :
    decodeBytes op b1 b2 = .undefined op := by
  simp only [undefinedOpcodes, List.mem_cons, List.not_mem_nil, or_false] at h
  rcases h with rfl | rfl | rfl | rfl | rfl | rfl | rfl | rfl | rfl | rfl | rfl <;> rfl

/-- An undefined instruction is decoded from its own byte, one of the eleven (R109). -/
theorem decodeBytes_eq_undefined {op b1 b2 c : Byte} (h : decodeBytes op b1 b2 = .undefined c) :
    op ∈ undefinedOpcodes ∧ c = op := by
  obtain rfl : op = c := opcode_eq_of_decodeBytes_eq h rfl
  have wf := wellFormed_decodeBytes op b1 b2
  rw [h] at wf
  exact ⟨List.contains_iff_mem.1 wf, rfl⟩

theorem decodeBytes_stop (b1 b2 : Byte) : decodeBytes 0x10 b1 b2 = .stop b1 := rfl

theorem opcode_eq_of_decodeBytes_eq_stop {op b1 b2 pad : Byte} (h : decodeBytes op b1 b2 = .stop pad) : op = 0x10 := by
  have head := encode_decodeBytes_head? op b1 b2
  rw [h] at head
  exact (Option.some.inj head).symm

end Sys2Proof

namespace Sys2Proof.Machine

variable {s t : State} {i : Instr} {k : Fault}

/-! ### Instructions -/

@[simp] theorem State.setOpd8_fault (s : State) (x : Opd8) (v : Byte) : (s.setOpd8 x v).fault = s.fault := by
  cases x with
  | reg r => exact s.setR8_fault r v
  | atHl => exact memWrite_fault s s.hl v

@[simp] theorem extendedPage_fault (op2 : Byte) (s : State) : (extendedPage op2 s).fault = s.fault := by
  unfold extendedPage
  split <;> simp [rotateOpd, bitTest, bitReset, bitSet]

/-- UNDEFINED and STOP raise their faults; every other instruction leaves `fault`: its operation writes registers and PC,
memory through the gate, or `halted`, `ime` or `eiPending` (R300, R301). -/
theorem exec_fault_cases (h : exec i s = .next t) :
    t.fault = s.fault ∨ (∃ op, i = .undefined op ∧ t = raiseFatal (.decodeError op) s) ∨
      (∃ pad, i = .stop pad ∧ t = raiseFatal (.executorError "STOP") s) := by
  cases i <;> cases h
  case undefined op => exact .inr (.inl ⟨op, rfl, rfl⟩)
  case stop pad => exact .inr (.inr ⟨pad, rfl, rfl⟩)
  all_goals left
  all_goals simp [loadRegReg, loadRegMem, loadRegImm, storeReg, storeImm, storeA, loadA, storeAStep, loadAStep, load16Imm,
    storeSp, memWrite16, loadSpHl, loadHlSpDisp, pushReg, popReg, pop16_snd, aluOpd, aluImm, aluApply, inc8, dec8,
    decimalAdjust, complementA, setCarry, complementCarry, addHl, addSpDisp, inc16, dec16, rotateA, rotateOpd, bitTest,
    bitReset, bitSet, jumpAbs, jumpAbsIf, jumpHl, jumpRel, jumpRelIf, callAbs, callAbsIf, returnNear, returnIf,
    returnFromInterrupt, restart, noOperation, enterHalt, disableInterrupts, enableInterrupts, apply_ite State.fault]

/-! ### The close of a step -/

@[simp] theorem settleEi_fault (s t : State) : (settleEi s t).fault = t.fault := by
  unfold settleEi
  split <;> rfl

@[simp] theorem serviceInterrupts_fault (s : State) : (serviceInterrupts s).fault = s.fault := by
  rcases serviceInterrupts_cases s with h | ⟨i, -, -, h⟩ <;> rw [h]
  exact takeInterrupt_fault i s

@[simp] theorem serviceHaltInterrupts_fault (s : State) : (serviceHaltInterrupts s).fault = s.fault := by
  rcases serviceHaltInterrupts_cases s with ⟨-, h⟩ | ⟨i, -, -, h⟩ | ⟨i, -, -, h⟩ <;> rw [h]
  exact takeInterrupt_fault i _

/-- What closes a step raises no fault (R300, R331). -/
@[simp] theorem closeStep_fault (c : Nat) (s : State) : (closeStep c s).fault = s.fault := by
  simp only [closeStep]
  split <;> simp [dmaCountdown]

/-! ### Steps -/

/-- A step that records a fault is its instruction alone: nothing closes it (R301, R309). -/
theorem exec_of_step_records_fault (hs : s.fault = none) (h : step s = .next t) (ht : t.fault = some k) :
    s.halted = false ∧ exec (decodeAt s s.regs.pc) s = .next t := by
  rcases step_cases h with ⟨-, rfl⟩ | ⟨running, u, hu, ⟨-, rfl⟩ | ⟨huf, rfl⟩⟩
  · simp [hs] at ht
  · exact ⟨running, hu⟩
  · simp [huf] at ht

/-- A fatal fault ends the step of the instruction that raises it (R301, R309). -/
theorem step_of_exec_fatal (hs : s.fault = none) (running : s.halted = false)
    (hu : exec (decodeAt s s.regs.pc) s = .next (raiseFatal k s)) : step s = .next (raiseFatal k s) := by
  simp [step, hs, running, hu, finishInstr, raiseFatal]

end Sys2Proof.Machine

open Sys2Proof Sys2Proof.Machine

/-- Settles O9: a step that records a fault is its instruction alone, that is UNDEFINED or STOP, and the decoder answers
these for the eleven undefined bytes and for 0x10 only. -/
theorem onlyDecodeErrorsAndStopFault : Obligations.OnlyDecodeErrorsAndStopFault := by
  unfold Obligations.OnlyDecodeErrorsAndStopFault
  refine fun s hs => ⟨fun t k h ht => ?_, fun running hop => ?_, fun running hop => ?_⟩
  · obtain ⟨running, hexec⟩ := exec_of_step_records_fault hs h ht
    refine ⟨running, ?_⟩
    rcases exec_fault_cases hexec with kept | ⟨op, hi, rfl⟩ | ⟨pad, hi, rfl⟩
    · simp [kept, hs] at ht
    · obtain ⟨hop, rfl⟩ := decodeBytes_eq_undefined hi
      exact ⟨.inl ⟨hop, (Option.some.inj ht).symm⟩, rfl⟩
    · exact ⟨.inr ⟨opcode_eq_of_decodeBytes_eq_stop hi, (Option.some.inj ht).symm⟩, rfl⟩
  · have hi : decodeAt s s.regs.pc = .undefined (memRead s s.regs.pc) := decodeBytes_of_mem_undefinedOpcodes hop _ _
    exact ⟨_, step_of_exec_fatal hs running (congrArg (exec · s) hi), rfl⟩
  · have hi : decodeAt s s.regs.pc = .stop (memRead s (s.regs.pc + 1)) := by
      unfold decodeAt
      rw [hop, decodeBytes_stop]
    exact ⟨_, step_of_exec_fatal hs running (congrArg (exec · s) hi), rfl⟩

end

section
/-! The wake-up of a halted core (60_exceptions.md R310), and the entry into a handler: its push is two gated byte writes
(41_load16_stack.md R160). -/

namespace Sys2Proof.Machine

variable {s : State} {a : Word} {k : Nat}

/-! ### Gated writes of bytes -/

/-- A gated write to anything but the cell and the DMA trigger leaves the cell. -/
theorem memWrite_read_ne (v : Byte) (hk : target s a ≠ .cell k) (hdma : target s a ≠ .reg .dma) :
    (memWrite s a v).mem.read k = s.mem.read k := by
  rcases memWrite_cases s a v with h | ⟨-, h⟩ <;> rw [h]
  rcases rawWrite_cases s a v with ⟨-, h⟩ | h | ⟨j, hj, h⟩ | ⟨r, hr, h⟩ <;> rw [h]
  · exact Memory.read_write_ne _ _ _ _ fun e => hk (e ▸ hj)
  · cases r with
    | dma => exact absurd hr hdma
    | _ => rfl

/-- A storage cell has no address below 0x8000. -/
theorem ge_of_target_cell (ht : target s a = .cell k) : 0x8000 ≤ a.toNat := by
  by_contra! hlt
  rcases Nat.lt_or_ge a.toNat 0x4000 with h | h
  · obtain ⟨j, hj⟩ := target_below_0x4000 s h
    cases hj.symm.trans ht
  · cases (target_switchableBank h hlt).symm.trans ht

/-- A gated write that reaches a storage cell stores the byte there. -/
theorem memWrite_of_target_cell (v : Byte) (hd : denied s a = false) (ht : target s a = .cell k) :
    memWrite s a v = s.storeCell k v := memWrite_cell v hd ht (ge_of_target_cell ht)

/-- A stored byte is read where the gates and the map lead to its cell; every other gated read is as before. -/
theorem memRead_storeCell (v : Byte) (hk : k < bootRomBase) (b : Word) :
    memRead (s.storeCell k v) b = if denied s b = false ∧ target s b = .cell k then v else memRead s b := by
  have same_gates : denied (s.storeCell k v) b = denied s b := rfl
  cases hd : denied s b with
  | true => simp [memRead, same_gates, hd]
  | false =>
    rw [memRead_of_not_denied (same_gates.trans hd), memRead_of_not_denied hd]
    split
    next h => exact rawRead_storeCell_same v h.2
    next h => exact rawRead_storeCell_ne v hk fun ht => h ⟨rfl, ht⟩

/-- Two gated writes, whatever becomes of the register file, are two bytes stored. -/
theorem storesTwoBytesAt_memWrite (s : State) (a1 : Word) (v1 : Byte) (a2 : Word) (v2 : Byte) (r : Regs) :
    StoresTwoBytesAt s { memWrite (memWrite s a1 v1) a2 v2 with regs := r } a1 v1 a2 v2 := by
  refine ⟨rfl, fun hd1 hd2 => ?_, fun k1 k2 hd1 ht1 hd2 ht2 b => ?_, fun k hk1 hdma1 hk2 hdma2 => ?_⟩
  · have denied_both : memWrite (memWrite s a1 v1) a2 v2 = s := by simp [memWrite, hd1, hd2]
    rw [denied_both]
    exact ⟨rfl, fun b => memRead_regs s r b⟩
  · have second : memWrite (s.storeCell k1 v1) a2 v2 = (s.storeCell k1 v1).storeCell k2 v2 :=
      memWrite_of_target_cell v2 hd2 ht2
    rw [memRead_regs, memWrite_of_target_cell v1 hd1 ht1, second, memRead_storeCell v2 (target_cell_lt ht2),
      memRead_storeCell v1 (target_cell_lt ht1)]
    rfl
  · exact (memWrite_read_ne v2 hk2 hdma2).trans (memWrite_read_ne v1 hk1 hdma1)

/-! ### The push -/

/-- A push is two gated writes and the move of SP. -/
theorem push16_eq (w : Word) (s : State) :
    push16 w s = { memWrite (memWrite s (s.regs.sp - 1) (hiByte w)) (s.regs.sp - 2) (loByte w) with
      regs := { s.regs with sp := s.regs.sp - 2 } } := by
  have two : s.regs.sp - 1 - 1 = s.regs.sp - 2 := by bv_omega
  simp only [push16, State.setSp, memWrite_setRegs, two]

/-! ### The entry into a handler -/

/-- The mask of a source clears its bit and no other. -/
theorem getLsbD_and_not_bitMask (b : Byte) (i : IntSource) (n : Nat) :
    (b &&& ~~~(bitMask i.bit)).getLsbD n = (b.getLsbD n && decide (n ≠ i.bit)) := by
  rcases Nat.lt_or_ge n 8 with hn | hn
  · have mask : (bitMask i.bit).getLsbD n = decide (n = i.bit) := by
      cases i <;> interval_cases n <;> rfl
    rw [BitVec.getLsbD_and, BitVec.getLsbD_not, mask]
    simp [hn]
  · rw [BitVec.getLsbD_of_ge _ n hn, BitVec.getLsbD_of_ge b n hn, Bool.false_and]

/-- An entry clears the request bit and IME, stores PC below SP by two gated writes and goes to the vector (R306). -/
theorem takeInterrupt_eq (i : IntSource) (s : State) :
    takeInterrupt i s =
      { memWrite (memWrite { s with io := { s.io with ifReg := s.io.ifReg &&& ~~~(bitMask i.bit) }, ime := false }
          (s.regs.sp - 1) (hiByte s.regs.pc)) (s.regs.sp - 2) (loByte s.regs.pc) with
        regs := { s.regs with sp := s.regs.sp - 2, pc := i.vector } } := by
  simp only [takeInterrupt, push16_eq]
  rfl

theorem takeInterrupt_regs (i : IntSource) (s : State) :
    (takeInterrupt i s).regs = { s.regs with sp := s.regs.sp - 2, pc := i.vector } := by
  rw [takeInterrupt_eq]

theorem takeInterrupt_storesTwoBytesAt (i : IntSource) (s : State) :
    StoresTwoBytesAt { s with io := { s.io with ifReg := s.io.ifReg &&& ~~~(bitMask i.bit) }, ime := false }
      (takeInterrupt i s) (s.regs.sp - 1) (hiByte s.regs.pc) (s.regs.sp - 2) (loByte s.regs.pc) := by
  rw [takeInterrupt_eq]
  exact storesTwoBytesAt_memWrite _ _ _ _ _ _

/-! ### The scans -/

variable {i : IntSource}

theorem serviceInterrupts_of_candidate (hc : candidate s = some i) (hime : s.ime = true) :
    serviceInterrupts s = takeInterrupt i s := by simp [serviceInterrupts, hc, hime]

theorem serviceHaltInterrupts_of_none (hc : candidate s = none) : serviceHaltInterrupts s = s := by
  simp [serviceHaltInterrupts, hc]

theorem serviceHaltInterrupts_of_candidate (hc : candidate s = some i) :
    serviceHaltInterrupts s = serviceInterrupts { s with halted := false } := by
  have same : candidate { s with halted := false } = some i := hc
  simp only [serviceHaltInterrupts, serviceInterrupts, hc, same]

/-- The halted scan closes a step that leaves the core halted (R331). -/
theorem closeStep_of_halted (c : Nat) (h : (environmentStep (stepTimer c (dmaCountdown c s))).halted = true) :
    closeStep c s = serviceHaltInterrupts (environmentStep (stepTimer c (dmaCountdown c s))) := if_pos h

end Sys2Proof.Machine

open Sys2Proof Sys2Proof.Machine

/-- Settles O56: with a candidate the halted scan is the running core's scan of the woken state, which with IME clear takes
nothing and with IME set enters the handler. -/
theorem haltWakesOnEnabledRequests : Obligations.HaltWakesOnEnabledRequests := by
  unfold Obligations.HaltWakesOnEnabledRequests
  refine fun s => ⟨serviceHaltInterrupts_of_none, fun i hc hime => ?_, fun i hc hime => ?_, fun c => closeStep_of_halted c⟩
  · rw [serviceHaltInterrupts_of_candidate hc]
    exact serviceInterrupts_of_none_to_take (.inr hime)
  · have wake := serviceHaltInterrupts_of_candidate hc
    have entry : serviceHaltInterrupts s = takeInterrupt i { s with halted := false } :=
      wake.trans (serviceInterrupts_of_candidate hc hime)
    refine ⟨wake, ?_⟩
    rw [entry]
    exact ⟨takeInterrupt_halted i _, takeInterrupt_ime i _, takeInterrupt_regs i _, _,
      getLsbD_and_not_bitMask s.io.ifReg i, takeInterrupt_storesTwoBytesAt i _⟩

end

section
/-! The divider and the disabled timer (60_exceptions.md R320, R322), and the gated writes to their registers
(20_memory.md R81, R85). -/

namespace Sys2Proof.Machine

variable {s : State} {a : Word}

/-! ### The divider -/

theorem timerTick_div (s : State) : (timerTick s).io.div = s.io.div := by
  unfold timerTick requestInterrupt
  split <;> rfl

theorem timerTicks_div (n : Nat) (s : State) : (timerTicks n s).io.div = s.io.div := by
  induction n generalizing s with
  | zero => rfl
  | succ n ih => exact (ih _).trans (timerTick_div s)

theorem stepTima_div (c : Nat) (s : State) : (stepTima c s).io.div = s.io.div := by
  unfold stepTima
  split
  · exact timerTicks_div _ s
  · rfl

/-- DIV counts the whole periods of 256 cycles, whatever the timer does (R320). -/
theorem stepTimer_div (c : Nat) (s : State) :
    (stepTimer c s).io.div = BitVec.ofNat 8 (s.io.div.toNat + (s.divAcc + c) / 256) := by
  rw [stepTimer, stepTima_div, BitVec.ofNat_add, BitVec.ofNat_toNat, BitVec.setWidth_eq]
  rfl

/-! ### The disabled timer -/

theorem stepTima_of_disabled (c : Nat) (h : s.io.tac.getLsbD 2 = false) : stepTima c s = { s with timaAcc := 0 } := by
  simp only [stepTima, h, Bool.false_eq_true, if_false]

/-- With the timer disabled only the divider counts, and the timer's accumulator is zeroed (R322). -/
theorem stepTimer_of_disabled (c : Nat) (h : s.io.tac.getLsbD 2 = false) :
    stepTimer c s = { stepDivider c s with timaAcc := 0 } := stepTima_of_disabled c h

/-! ### Gated writes to the registers of the I/O block -/

/-- The registers lie in the last page. -/
theorem ge_of_target_reg {r : IoReg} (h : target s a = .reg r) : 0xFF00 ≤ a.toNat := by
  simp only [target] at h
  repeat' split at h
  all_goals simp only [Target.reg.injEq, reduceCtorEq] at h
  all_goals omega

/-- Outside the lockout a gated write to a register does what the register's write does. -/
theorem memWrite_of_target_reg {r : IoReg} (v : Byte) (hd : s.dmaRemaining = 0) (ht : target s a = .reg r) :
    memWrite s a v = writeIoReg s r v := by
  have ha : 0xFF00 ≤ a.toNat := ge_of_target_reg ht
  rw [memWrite_of_not_denied v (denied_eq_false (.inl hd) (by omega) (by omega))]
  simp only [rawWrite, if_neg (show ¬ a.toNat < 0x8000 by omega), ht]

end Sys2Proof.Machine

open Sys2Proof Sys2Proof.Machine

/-- Settles O57: the ticks of TIMA leave DIV, with the timer disabled there are none, and 0xFF04 and 0xFF07 name DIV and
TAC. -/
theorem dividerAndDisabledTimer : Obligations.DividerAndDisabledTimer := by
  unfold Obligations.DividerAndDisabledTimer
  refine fun s c v => ⟨stepTimer_div c s, stepTimer_divAcc c s, rfl, fun disabled => ?_, fun hd => ⟨?_, ?_⟩⟩
  · rw [stepTimer_of_disabled c disabled]
    rfl
  · exact memWrite_of_target_reg v hd (r := .div) rfl
  · exact memWrite_of_target_reg v hd (r := .tac) rfl

end

section
/-! The encoding (30_encoding.md): the first byte fixes the length, the instruction is encoded by the bytes read, and the
fields of the opcode select the row. -/

namespace Sys2Proof

/-! ### The bytes of a decoded instruction -/

/-- The two bytes of a 16-bit immediate, taken apart again. -/
theorem bytes_of_wordOf (op b1 b2 : Byte) : [op, loByte (wordOf b2 b1), hiByte (wordOf b2 b1)] = [op, b1, b2] := by
  rw [Machine.loByte_wordOf, Machine.hiByte_wordOf]

theorem encode_decodeExtended (op2 : Byte) : encode (decodeExtended op2) = [0xCB, op2] := by
  apply byte_cases (b := op2)
  intro n
  fin_cases n <;> rfl

/-- The encoding of a decoded instruction is as many of the bytes read as its first byte says (R100, R112). -/
theorem encode_decodeBytes (op b1 b2 : Byte) : encode (decodeBytes op b1 b2) = [op, b1, b2].take (opcodeLength op) := by
  apply byte_cases (b := op)
  intro n
  fin_cases n
  -- The goals stand in the order of the opcodes from 0x00 on; only that of 0xCB looks at the second byte.
  pick_goal 204
  · exact encode_decodeExtended b1
  -- Of the others, those with a 16-bit immediate put its bytes together and take them apart.
  any_goals exact bytes_of_wordOf _ b1 b2
  all_goals rfl

theorem opcodeLength_cases (op : Byte) : opcodeLength op = 3 ∨ opcodeLength op = 2 ∨ opcodeLength op = 1 := by
  unfold opcodeLength
  split
  · exact .inl rfl
  · split
    · exact .inr (.inl rfl)
    · exact .inr (.inr rfl)

theorem byteLength_decodeBytes (op b1 b2 : Byte) : byteLength (decodeBytes op b1 b2) = opcodeLength op := by
  rw [byteLength, encode_decodeBytes]
  rcases opcodeLength_cases op with h | h | h <;> rw [h] <;> rfl

/-- What the decoder accepts is three bytes of which it reads as many as the first says; those beyond the list it takes
as 0 (R101, R111). -/
theorem decode_eq_ok {bs rest : List Byte} {i : Instr} (h : decode bs = .ok (i, rest)) :
    ∃ op b1 b2, decodeBytes op b1 b2 = i ∧ bs = [op, b1, b2].take (opcodeLength op) ++ rest := by
  match bs with
  | [] => cases h
  | op :: tail =>
    rcases opcodeLength_cases op with hl | hl | hl <;> simp only [decode, hl] at h
    · match tail with
      | b1 :: b2 :: _ => cases h; exact ⟨op, b1, b2, rfl, by rw [hl]; rfl⟩
    · match tail with
      | b1 :: _ => cases h; exact ⟨op, b1, 0, rfl, by rw [hl]; rfl⟩
    · cases h
      exact ⟨op, 0, 0, rfl, by rw [hl]; rfl⟩

/-! ### The fields of an opcode (R102) -/

/-- The opcode with the fields `x`, `y`, `z`. -/
def opcodeOf (x : Nat) (y z : Octal) : Byte := BitVec.ofNat 8 (64 * x + 8 * y.toNat + z.toNat)

theorem fields_opcodeOf {x : Nat} (hx : x < 4) (y z : Octal) :
    fieldX (opcodeOf x y z) = x ∧ fieldY (opcodeOf x y z) = y ∧ fieldZ (opcodeOf x y z) = z := by
  interval_cases x <;> cases y <;> cases z <;> exact ⟨rfl, rfl, rfl⟩

/-- 0xCB is the opcode of the fields 3, 1, 3. -/
theorem opcodeOf_ne_0xCB {x : Nat} (hx : x < 4) {y z : Octal} (h : x ≠ 3 ∨ z ≠ .o3) : opcodeOf x y z ≠ 0xCB := by
  obtain ⟨fx, -, fz⟩ := fields_opcodeOf hx y z
  intro e
  rw [e] at fx fz
  exact h.elim (fun hne => hne fx.symm) (fun hne => hne fz.symm)

/-- The row of the main page at the fields `x`, `y`, `z` (R103 to R106). -/
def mainRow (op : Byte) (x : Nat) (y z : Octal) (b1 : Byte) (d16 : Word) : Instr :=
  match x with
  | 0 => decodeQuadrant0 y z b1 d16
  | 1 => mkLd (r8Table y) (r8Table z)
  | 2 => mkAlu (aluTable y) (r8Table z)
  | _ => decodeQuadrant3 op y z b1 d16

/-- The row of the extended page at the fields `x`, `y`, `z` (R107). -/
def extendedRow (x : Nat) (y z : Octal) : Instr :=
  match x with
  | 0 => mkRot (rotTable y) (r8Table z)
  | 1 => mkBit y (r8Table z)
  | 2 => mkRes y (r8Table z)
  | _ => mkSet y (r8Table z)

theorem decodeBytes_opcodeOf {x : Nat} (hx : x < 4) {y z : Octal} (h : x ≠ 3 ∨ z ≠ .o3) (b1 b2 : Byte) :
    decodeBytes (opcodeOf x y z) b1 b2 = mainRow (opcodeOf x y z) x y z b1 (wordOf b2 b1) := by
  obtain ⟨fx, fy, fz⟩ := fields_opcodeOf hx y z
  have by_fields : decodeBytes (opcodeOf x y z) b1 b2 = mainRow (opcodeOf x y z) (fieldX (opcodeOf x y z))
      (fieldY (opcodeOf x y z)) (fieldZ (opcodeOf x y z)) b1 (wordOf b2 b1) := if_neg (opcodeOf_ne_0xCB hx h)
  rw [by_fields, fx, fy, fz]

theorem decodeBytes_0xCB_opcodeOf {x : Nat} (hx : x < 4) (y z : Octal) (b2 : Byte) :
    decodeBytes 0xCB (opcodeOf x y z) b2 = extendedRow x y z := by
  obtain ⟨fx, fy, fz⟩ := fields_opcodeOf hx y z
  have by_fields : decodeBytes 0xCB (opcodeOf x y z) b2 = extendedRow (fieldX (opcodeOf x y z))
      (fieldY (opcodeOf x y z)) (fieldZ (opcodeOf x y z)) := rfl
  rw [by_fields, fx, fy, fz]

/-- The quadrant of the loads holds HALT where both operands would be memory (R104). -/
theorem mkLd_r8Table (y z : Octal) :
    mkLd (r8Table y) (r8Table z) = if y = .o6 ∧ z = .o6 then .halt else mkLd (r8Table y) (r8Table z) := by
  split
  next h =>
    obtain ⟨rfl, rfl⟩ := h
    rfl
  next => rfl

/-- The rows of a table of four, one by one. -/
theorem forall_mem_numbered {α : Type} {P : Nat → α → Prop} {a0 a1 a2 a3 : α} (h0 : P 0 a0) (h1 : P 1 a1) (h2 : P 2 a2)
    (h3 : P 3 a3) : ∀ (n : Nat) (a : α), (n, a) ∈ [(0, a0), (1, a1), (2, a2), (3, a3)] → P n a := by
  intro n a h
  simp only [List.mem_cons, List.not_mem_nil, or_false, Prod.mk.injEq] at h
  rcases h with ⟨rfl, rfl⟩ | ⟨rfl, rfl⟩ | ⟨rfl, rfl⟩ | ⟨rfl, rfl⟩
  exacts [h0, h1, h2, h3]

/-! ### Rows and costs -/

theorem rowOf_decodeBytes {op : Byte} (h : op ≠ 0xCB) (b1 b2 : Byte) : rowOf (decodeBytes op b1 b2) = op.toNat := by
  rw [rowOf, encode_decodeBytes]
  rcases opcodeLength_cases op with hl | hl | hl <;> rw [hl]
  · exact if_neg h
  · exact if_neg h
  · rfl

theorem rowOf_decodeBytes_0xCB (op2 b2 : Byte) : rowOf (decodeBytes 0xCB op2 b2) = 256 + op2.toNat := by
  rw [rowOf, encode_decodeBytes]
  rfl

theorem conditionOf_eq_none {i : Instr}
    (h : ∀ (cc : Cond) (e8 : Byte) (a16 : Word), i ∉ [mkJr cc e8, mkJp cc a16, mkCall cc a16, mkRet cc]) :
    conditionOf i = none := by
  rw [Option.eq_none_iff_forall_ne_some]
  rintro ⟨cc, n⟩ hi
  rcases conditionOf_cases hi with ⟨e8, rfl⟩ | ⟨a16, rfl⟩ | ⟨a16, rfl⟩ | rfl
  · exact h cc e8 0 (by simp)
  · exact h cc 0 a16 (by simp)
  · exact h cc 0 a16 (by simp)
  · exact h cc 0 0 (by simp)

theorem conditionOf_of_mem {i : Instr} {cc : Cond} {e8 : Byte} {a16 : Word}
    (h : i ∈ [mkJr cc e8, mkJp cc a16, mkCall cc a16, mkRet cc]) : ∃ n, conditionOf i = some (cc, n) := by
  simp only [List.mem_cons, List.not_mem_nil, or_false] at h
  rcases h with rfl | rfl | rfl | rfl
  exacts [⟨_, conditionOf_mkJr cc e8⟩, ⟨_, conditionOf_mkJp cc a16⟩, ⟨_, conditionOf_mkCall cc a16⟩,
    ⟨_, conditionOf_mkRet cc⟩]

end Sys2Proof

namespace Sys2Proof.Machine

variable {s : State} {i : Instr} {c : Nat}

/-- Where CYCLES replaces no row an unconditional instruction takes the base cost of its row (R116). -/
theorem cyclesOf_of_defaultBase (hs : s.params.cycles = []) (hi : conditionOf i = none ∧ defaultBase (rowOf i) = c) :
    cyclesOf i s = c := by
  obtain ⟨hnone, rfl⟩ := hi
  rw [cyclesOf_unconditional hnone, costOf_of_no_row (by simp [hs])]

/-- Where CYCLES replaces no row a conditional transfer takes its penalty more exactly where it is taken (R117). -/
theorem cyclesOf_of_condition {cc : Cond} {n : Nat} (hs : s.params.cycles = []) (hi : conditionOf i = some (cc, n))
    (hc : defaultBase (rowOf i) = c) : cyclesOf i s = if condHolds cc s.regs.f then c + n else c := by
  rw [cyclesOf_conditional hi, costOf_of_no_row (by simp [hs]), hi, hc]
  rfl

/-- A row of CYCLES that is not the instruction's does not matter. -/
theorem cyclesOf_of_no_row (h : ∀ q ∈ s.params.cycles, q.row ≠ rowOf i) :
    cyclesOf i s = cyclesOf i { s with params := { s.params with cycles := [] } } := by
  have cost : costOf s.params i = costOf { s.params with cycles := [] } i := by
    rw [costOf_of_no_row h, costOf_of_no_row (by simp)]
  cases hi : conditionOf i with
  | none => rw [cyclesOf_unconditional hi, cyclesOf_unconditional hi, cost]
  | some p => rw [cyclesOf_conditional hi, cyclesOf_conditional hi, cost]

end Sys2Proof.Machine

open Sys2Proof Sys2Proof.Machine

/-- Settles O1: an instruction with a 16-bit immediate puts its two bytes together again, the other bytes select it by
evaluation. -/
theorem decodeInvertsEncode : Obligations.DecodeInvertsEncode := by
  unfold Obligations.DecodeInvertsEncode
  intro i wf rest
  cases i
  case undefined op => exact Laws.RoundTrip.undefined op wf rest
  case prefixCb op2 => exact Laws.RoundTrip.prefixCb op2 wf rest
  case ldBcD16 w | ldDeD16 w | ldHlD16 w | ldSpD16 w | ldAtA16Sp w | ldAtA16A w | ldAAtA16 w | jpA16 w | jpNzA16 w
    | jpZA16 w | jpNcA16 w | jpCA16 w | callA16 w | callNzA16 w | callZA16 w | callNcA16 w | callCA16 w =>
    exact Laws.RoundTrip.ofPair rest _ w
  all_goals rfl

/-- Settles O2: the decoder answers well-formed instructions only, and the encoding of its answer is the bytes it read. -/
theorem encodeInvertsDecode : Obligations.EncodeInvertsDecode := by
  unfold Obligations.EncodeInvertsDecode
  intro bs i rest h
  obtain ⟨op, b1, b2, rfl, rfl⟩ := decode_eq_ok h
  exact ⟨wellFormed_decodeBytes op b1 b2, congrArg (· ++ rest) (encode_decodeBytes op b1 b2)⟩

/-- Settles O4: the regular families by the fields of their opcodes, the irregular rows by evaluation. -/
theorem opcodeFormulas : Obligations.OpcodeFormulas := by
  unfold Obligations.OpcodeFormulas
  refine ⟨fun y z b1 b2 => ⟨?_, ?_, ?_, ?_, ?_, ?_⟩, fun y b1 b2 => ⟨?_, ?_, ?_, ?_, ?_⟩, forall_mem_numbered ?_ ?_ ?_ ?_,
    forall_mem_numbered ?_ ?_ ?_ ?_, forall_mem_numbered ?_ ?_ ?_ ?_, fun b1 b2 => ?_⟩
  · exact (decodeBytes_opcodeOf (x := 1) (by decide) (.inl (by decide)) b1 b2).trans (mkLd_r8Table y z)
  · exact decodeBytes_opcodeOf (x := 2) (by decide) (.inl (by decide)) b1 b2
  · rw [← Nat.zero_add (8 * y.toNat)]
    exact decodeBytes_0xCB_opcodeOf (x := 0) (by decide) y z b2
  · exact decodeBytes_0xCB_opcodeOf (x := 1) (by decide) y z b2
  · exact decodeBytes_0xCB_opcodeOf (x := 2) (by decide) y z b2
  · exact decodeBytes_0xCB_opcodeOf (x := 3) (by decide) y z b2
  · rw [← Nat.zero_add (8 * y.toNat)]
    exact decodeBytes_opcodeOf (x := 0) (z := .o4) (by decide) (.inl (by decide)) b1 b2
  · rw [← Nat.zero_add (8 * y.toNat)]
    exact decodeBytes_opcodeOf (x := 0) (z := .o5) (by decide) (.inl (by decide)) b1 b2
  · rw [← Nat.zero_add (8 * y.toNat)]
    exact decodeBytes_opcodeOf (x := 0) (z := .o6) (by decide) (.inl (by decide)) b1 b2
  · exact decodeBytes_opcodeOf (x := 3) (z := .o6) (by decide) (.inr (by decide)) b1 b2
  · exact decodeBytes_opcodeOf (x := 3) (z := .o7) (by decide) (.inr (by decide)) b1 b2
  -- A row of pairs, of stack pairs or of conditions: its opcode is a literal.
  iterate 12 exact fun _ _ => by and_intros <;> rfl
  · refine ⟨?_, ?_, ?_, ?_, ?_, ?_, fun op hop => decodeBytes_of_mem_undefinedOpcodes hop b1 b2⟩
    all_goals and_intros <;> rfl

/-- Settles O5: the encoding of a decoded instruction is as long as its first byte says. -/
theorem lengthFromFirstByte : Obligations.LengthFromFirstByte := byteLength_decodeBytes

-- The default costs are looked up in tables of 64 entries.
set_option maxRecDepth 1000 in
/-- Settles O7: the row is read off the bytes, the default costs are evaluated row by row, and a replaced row is the one
`costOf` finds first. -/
theorem cycleCosts : Obligations.CycleCosts := by
  unfold Obligations.CycleCosts
  refine ⟨fun op b1 b2 h => rowOf_decodeBytes h b1 b2, rowOf_decodeBytes_0xCB, fun s hs => ?_,
    fun s i => cyclesOf_of_no_row, fun s i before r after hp hb hr => ⟨fun cc e8 a16 hi => ?_, fun hi => ?_⟩⟩
  · have base {i c} : conditionOf i = none ∧ defaultBase (rowOf i) = c → cyclesOf i s = c := cyclesOf_of_defaultBase hs
    refine ⟨fun i hi => base ?_, fun i hi => base ?_, fun i hi => base ?_, fun b => ?_, fun w => ?_, fun r q => ?_,
      fun x d8 => ?_, fun r d16 => ?_, fun r => ?_, fun op x d8 => ?_, fun op x => base ?_, fun b x => ?_,
      fun y => base ?_, fun cc e8 => ?_, fun cc a16 => ?_, fun cc a16 => ?_, fun cc => ?_⟩
    · revert i; decide
    · revert i; decide
    · revert i; decide
    · and_intros <;> exact base ⟨rfl, rfl⟩
    · and_intros <;> exact base ⟨rfl, rfl⟩
    · refine ⟨base ?_, base ?_, base ?_⟩
      · cases r <;> cases q <;> exact ⟨rfl, rfl⟩
      · cases r <;> exact ⟨rfl, rfl⟩
      · cases q <;> exact ⟨rfl, rfl⟩
    · rcases x with r | _
      · cases r <;> exact ⟨base ⟨rfl, rfl⟩, base ⟨rfl, rfl⟩, base ⟨rfl, rfl⟩⟩
      · exact ⟨base ⟨rfl, rfl⟩, base ⟨rfl, rfl⟩, base ⟨rfl, rfl⟩⟩
    · cases r <;> exact ⟨base ⟨rfl, rfl⟩, base ⟨rfl, rfl⟩, base ⟨rfl, rfl⟩, base ⟨rfl, rfl⟩⟩
    · cases r <;> exact ⟨base ⟨rfl, rfl⟩, base ⟨rfl, rfl⟩⟩
    · refine ⟨base ?_, base ?_⟩
      · rcases x with r | _
        · cases op <;> cases r <;> exact ⟨rfl, rfl⟩
        · cases op <;> exact ⟨rfl, rfl⟩
      · cases op <;> exact ⟨rfl, rfl⟩
    · rcases x with r | _
      · cases op <;> cases r <;> exact ⟨rfl, rfl⟩
      · cases op <;> exact ⟨rfl, rfl⟩
    · rcases x with r | _
      · cases b <;> cases r <;> exact ⟨base ⟨rfl, rfl⟩, base ⟨rfl, rfl⟩, base ⟨rfl, rfl⟩⟩
      · cases b <;> exact ⟨base ⟨rfl, rfl⟩, base ⟨rfl, rfl⟩, base ⟨rfl, rfl⟩⟩
    · cases y <;> exact ⟨rfl, rfl⟩
    · exact cyclesOf_of_condition hs (conditionOf_mkJr cc e8) (by cases cc <;> rfl)
    · exact cyclesOf_of_condition hs (conditionOf_mkJp cc a16) (by cases cc <;> rfl)
    · exact cyclesOf_of_condition hs (conditionOf_mkCall cc a16) (by cases cc <;> rfl)
    · exact cyclesOf_of_condition hs (conditionOf_mkRet cc) (by cases cc <;> rfl)
  · obtain ⟨n, hcond⟩ := conditionOf_of_mem hi
    rw [cyclesOf_conditional hcond, costOf_of_first_row hp hb hr]
  · rw [cyclesOf_unconditional (conditionOf_eq_none hi), costOf_of_first_row hp hb hr]

/-- Settles O3: the decoder evaluates on each word. -/
theorem specWordsDecode : Obligations.SpecWordsDecode := by
  unfold Obligations.SpecWordsDecode
  and_intros <;> rfl

end

section
/-! The environment (60_exceptions.md R330): an event touches IF, STAT, plain I/O bytes and the joypad, and so does a batch of
them. -/

namespace Sys2Proof.Machine

variable {s t u : State}

theorem getLsbD_or_of_getLsbD (b m : Byte) {n : Nat} (h : b.getLsbD n = true) : (b ||| m).getLsbD n = true := by
  rw [BitVec.getLsbD_or, h, Bool.true_or]

/-- No source of the environment is the timer's bit or above bit 4 (R330). -/
theorem getLsbD_bitMask_extSource (i : ExtSource) {n : Nat} (hn : n = 2 ∨ 5 ≤ n) :
    (bitMask i.source.bit).getLsbD n = false := by
  rcases hn with rfl | hn
  · cases i <;> rfl
  · rcases Nat.lt_or_ge n 8 with h | h
    · cases i <;> interval_cases n <;> rfl
    · exact BitVec.getLsbD_of_ge _ n h

/-- From `s` to `t` the environment used its liberties: no request is cleared, the timer's request and bits 7:5 of IF stay,
storage changes in the I/O block only, and nothing else but STAT and the joypad changes. -/
structure EnvChange (s t : State) : Prop where
  frame    : t = { s with io := { s.io with ifReg := t.io.ifReg, stat := t.io.stat }, mem := t.mem, joypad := t.joypad }
  requests : ∀ n, s.io.ifReg.getLsbD n = true → t.io.ifReg.getLsbD n = true
  others   : ∀ n, n = 2 ∨ 5 ≤ n → t.io.ifReg.getLsbD n = s.io.ifReg.getLsbD n
  storage  : ∀ k, k < 0xFF00 ∨ 0xFF7F < k → t.mem.read k = s.mem.read k

theorem EnvChange.refl (s : State) : EnvChange s s := ⟨rfl, fun _ h => h, fun _ _ => rfl, fun _ _ => rfl⟩

theorem EnvChange.trans (h : EnvChange s t) (h' : EnvChange t u) : EnvChange s u where
  frame := h'.frame.trans (by rw [h.frame])
  requests n hn := h'.requests n (h.requests n hn)
  others n hn := (h'.others n hn).trans (h.others n hn)
  storage k hk := (h'.storage k hk).trans (h.storage k hk)

/-- A change that leaves IF. -/
theorem EnvChange.of_ifReg_eq
    (hframe : t = { s with io := { s.io with stat := t.io.stat }, mem := t.mem, joypad := t.joypad })
    (hmem : ∀ k, k < 0xFF00 ∨ 0xFF7F < k → t.mem.read k = s.mem.read k) : EnvChange s t := by
  have hif : t.io.ifReg = s.io.ifReg := by rw [hframe]
  refine ⟨?_, fun n hn => ?_, fun n _ => ?_, hmem⟩
  · rw [hif]
    exact hframe
  · rwa [hif]
  · rw [hif]

theorem envChange_envEvent (s : State) (e : EnvEvent) : EnvChange s (envEvent s e) := by
  cases e with
  | request i =>
    refine ⟨rfl, fun n hn => getLsbD_or_of_getLsbD _ _ hn, fun n hn => ?_, fun _ _ => rfl⟩
    exact BitVec.getLsbD_or.trans (by rw [getLsbD_bitMask_extSource i hn, Bool.or_false])
  | setStat bits => exact .of_ifReg_eq rfl fun _ _ => rfl
  | setJoypad j => exact .of_ifReg_eq rfl fun _ _ => rfl
  | writeIo offset v =>
    refine .of_ifReg_eq ?_ fun k hk => envEvent_read s (.writeIo offset v) k hk
    simp only [envEvent, envWriteIo]
    split <;> rfl

theorem envChange_envEvents (batch : List EnvEvent) (s : State) : EnvChange s (batch.foldl envEvent s) :=
  envEvents_keeps (fun t e h => h.trans (envChange_envEvent t e)) batch (.refl s)

/-- The environment's step is its schedule moved on and one batch of changes. -/
theorem envChange_environmentStep (s : State) : EnvChange { s with env := s.env.tail } (environmentStep s) := by
  unfold environmentStep
  split
  next h =>
    rw [h, List.tail_nil, ← h]
    exact .refl s
  next batch later h =>
    rw [h, List.tail_cons]
    exact envChange_envEvents batch _

end Sys2Proof.Machine

open Sys2Proof Sys2Proof.Machine

/-- Settles O60: each event is a change within the environment's liberties, and such changes compose. -/
theorem environmentKeepsToItsLiberties : Obligations.EnvironmentKeepsToItsLiberties := by
  unfold Obligations.EnvironmentKeepsToItsLiberties
  intro s
  obtain ⟨frame, requests, others, storage⟩ := envChange_environmentStep s
  have schedule : (environmentStep s).env = s.env.tail := by rw [frame]
  refine ⟨?_, requests, others, storage, schedule⟩
  rw [schedule]
  exact frame

end

section
/-! The programmable timer (60_exceptions.md R321): a tick reads and writes TIMA and IF and reads TMA, so any number of ticks
is a function of these three registers, and its closed form counts from TMA after the first overflow. -/

namespace Sys2Proof.Machine

/-! ### Ticks of TIMA and IF -/

/-- One tick of TIMA and IF, with TMA `tma`. -/
def tickRegs (tma : Byte) (r : Byte × Byte) : Byte × Byte :=
  if r.1 = 0xFF then (tma, r.2 ||| 0b100) else (r.1 + 1, r.2)

/-- TIMA and IF. -/
def State.timaIf (s : State) : Byte × Byte := (s.io.tima, s.io.ifReg)

/-- `s` with TIMA and IF replaced. -/
def State.withTimaIf (s : State) (r : Byte × Byte) : State := { s with io := { s.io with tima := r.1, ifReg := r.2 } }

theorem timerTick_eq (s : State) : timerTick s = s.withTimaIf (tickRegs s.io.tma s.timaIf) := by
  unfold timerTick tickRegs
  change _ = s.withTimaIf (if s.io.tima = 0xFF then _ else _)
  split <;> rfl

theorem timerTicks_eq (n : Nat) (s : State) : timerTicks n s = s.withTimaIf ((tickRegs s.io.tma)^[n] s.timaIf) := by
  induction n generalizing s with
  | zero => rfl
  | succ n ih =>
    rw [timerTicks, ih, timerTick_eq]
    rfl

/-- Short of the overflow TIMA counts. -/
theorem iterate_tickRegs_of_lt (tma : Byte) {n : Nat} {t f : Byte} (h : n < 256 - t.toNat) :
    (tickRegs tma)^[n] (t, f) = (t + BitVec.ofNat 8 n, f) := by
  induction n with
  | zero => simp
  | succ n ih =>
    rw [Function.iterate_succ_apply', ih (by omega)]
    have below : t + BitVec.ofNat 8 n ≠ 0xFF := by bv_omega
    have next : t + BitVec.ofNat 8 n + 1 = t + BitVec.ofNat 8 (n + 1) := by bv_omega
    simp only [tickRegs, if_neg below, next]

/-- The overflow reloads TIMA from TMA and requests the interrupt. -/
theorem iterate_tickRegs_overflow (tma t f : Byte) :
    (tickRegs tma)^[256 - t.toNat] (t, f) = (tma, f ||| 0b100) := by
  have ht : t.toNat < 256 := t.isLt
  obtain ⟨n, hn⟩ : ∃ n, 256 - t.toNat = n + 1 := ⟨255 - t.toNat, by omega⟩
  have at_end : t + BitVec.ofNat 8 n = 0xFF := by bv_omega
  rw [hn, Function.iterate_succ_apply', iterate_tickRegs_of_lt tma (by omega), at_end]
  rfl

/-- From the overflow on TIMA counts from TMA, modulo the distance from TMA to 256. -/
theorem iterate_tickRegs_of_ge (tma : Byte) {n : Nat} {t f : Byte} (h : 256 - t.toNat ≤ n) :
    (tickRegs tma)^[n] (t, f) =
      (tma + BitVec.ofNat 8 ((n - (256 - t.toNat)) % (256 - tma.toNat)), f ||| 0b100) := by
  induction n using Nat.strongRecOn generalizing t f with
  | ind n ih =>
    have ht : t.toNat < 256 := t.isLt
    obtain ⟨m, rfl⟩ := Nat.exists_eq_add_of_le' h
    rw [Function.iterate_add_apply, iterate_tickRegs_overflow, Nat.add_sub_cancel]
    rcases Nat.lt_or_ge m (256 - tma.toNat) with hm | hm
    · rw [iterate_tickRegs_of_lt tma hm, Nat.mod_eq_of_lt hm]
    · rw [ih m (by omega) hm, Nat.mod_eq_sub_mod hm, BitVec.or_assoc, BitVec.or_self]

/-! ### The timer's step -/

theorem timerPeriod_eq_getD (tac : Byte) : timerPeriod tac = [1024, 16, 64, 256].getD (tac.toNat % 4) 0 := by
  unfold timerPeriod
  have h : tac.toNat % 4 < 4 := Nat.mod_lt _ (by decide)
  generalize tac.toNat % 4 = m at h
  interval_cases m <;> rfl

variable {s : State}

/-- The step of the enabled timer: the divider's part, the due ticks, the rest kept. -/
theorem stepTimer_of_enabled (c : Nat) (h : s.io.tac.getLsbD 2 = true) :
    stepTimer c s =
      { (stepDivider c s).withTimaIf ((tickRegs s.io.tma)^[(s.timaAcc + c) / timerPeriod s.io.tac] s.timaIf) with
        timaAcc := (s.timaAcc + c) % timerPeriod s.io.tac } := by
  have enabled : (stepDivider c s).io.tac.getLsbD 2 = true := h
  rw [stepTimer, stepTima, if_pos enabled, timerTicks_eq]
  rfl

theorem stepTimer_tac (c : Nat) (s : State) : (stepTimer c s).io.tac = s.io.tac := by
  cases h : s.io.tac.getLsbD 2 with
  | false => exact congrArg (·.io.tac) (stepTimer_of_disabled c h)
  | true => exact congrArg (·.io.tac) (stepTimer_of_enabled c h)

/-! ### Elapsed cycles add up -/

theorem div_add_mod_add (a m n p : Nat) : (a + (m + n)) / p = (a + m) / p + ((a + m) % p + n) / p := by
  rcases Nat.eq_zero_or_pos p with rfl | hp
  · simp
  · conv_lhs => rw [← Nat.add_assoc, ← Nat.div_add_mod (a + m) p, Nat.add_assoc, Nat.mul_add_div hp]

theorem mod_add_mod_add (a m n p : Nat) : (a + (m + n)) % p = ((a + m) % p + n) % p := by
  rw [Nat.mod_add_mod, Nat.add_assoc]

theorem stepDivider_add (m n : Nat) (s : State) : stepDivider (m + n) s = stepDivider n (stepDivider m s) := by
  simp only [stepDivider, div_add_mod_add, mod_add_mod_add s.divAcc m n, BitVec.ofNat_add, BitVec.add_assoc]

end Sys2Proof.Machine

open Sys2Proof Sys2Proof.Machine

/-- Settles O58: the ticks due are a number of ticks of TIMA and IF, whose closed form has the two cases. -/
theorem timerCountsReloadsAndRequests : Obligations.TimerCountsReloadsAndRequests := by
  unfold Obligations.TimerCountsReloadsAndRequests
  intro s c enabled
  have ht : s.io.tima.toNat < 256 := s.io.tima.isLt
  have hm : s.io.tma.toNat < 256 := s.io.tma.isLt
  simp only [← timerPeriod_eq_getD, stepTimer_of_enabled c enabled, State.withTimaIf, State.timaIf]
  generalize (s.timaAcc + c) / timerPeriod s.io.tac = n
  refine ⟨rfl, fun h => ?_, fun h => ?_⟩
  · rw [iterate_tickRegs_of_lt _ h]
    refine ⟨?_, rfl⟩
    rw [BitVec.toNat_add, BitVec.toNat_ofNat]
    omega
  · rw [iterate_tickRegs_of_ge _ h]
    refine ⟨?_, rfl⟩
    have below := Nat.mod_lt (n - (256 - s.io.tima.toNat)) (show 0 < 256 - s.io.tma.toNat by omega)
    rw [BitVec.toNat_add, BitVec.toNat_ofNat]
    omega

/-- Settles O59: quotients and remainders of the elapsed cycles add up, and so do the ticks they make due. -/
theorem timerIsAdditive : Obligations.TimerIsAdditive := by
  unfold Obligations.TimerIsAdditive
  intro s m n
  have still := stepTimer_tac m s
  cases h : s.io.tac.getLsbD 2 with
  | false =>
    rw [stepTimer_of_disabled n (still ▸ h), stepTimer_of_disabled _ h, stepTimer_of_disabled _ h, stepDivider_add]
    rfl
  | true =>
    rw [stepTimer_of_enabled n (still ▸ h), still, stepTimer_of_enabled _ h, stepTimer_of_enabled _ h, stepDivider_add]
    simp only [div_add_mod_add, mod_add_mod_add]
    rw [Nat.add_comm, Function.iterate_add_apply]
    rfl

end

section
/-! The candidate (60_exceptions.md R302, R304) and the scan of a running core (R306). -/

namespace Sys2Proof.Machine

variable {s : State}

/-- Requested and enabled, by the number of the bit. -/
def pendingBit (s : State) (n : Nat) : Prop := s.io.ifReg.getLsbD n = true ∧ s.io.ie.getLsbD n = true

theorem pendingEnabled_iff (s : State) (i : IntSource) : pendingEnabled s i = true ↔ pendingBit s i.bit := Bool.and_eq_true_iff

/-- The sources in the order in which `candidate` looks for one. -/
def sources : List IntSource := [.vblank, .lcdStat, .timer, .serial, .joypad]

/-- The sources stand in the order of their bits (R302). -/
theorem bit_getElem_sources {n : Nat} (h : n < sources.length) : sources[n].bit = n := by
  have bound : n < 5 := h
  interval_cases n <;> rfl

theorem getElem_sources_bit (i : IntSource) : ∃ h : i.bit < sources.length, sources[i.bit] = i := by
  cases i <;> exact ⟨by decide, rfl⟩

theorem candidate_eq_none_iff : candidate s = none ↔ ∀ n < 5, ¬ pendingBit s n := by
  change sources.find? (pendingEnabled s) = none ↔ ∀ n < sources.length, ¬ pendingBit s n
  simp only [List.find?_eq_none, List.forall_mem_iff_forall_getElem, pendingEnabled_iff, bit_getElem_sources]

/-- The first source found is the one with the lowest bit. -/
theorem candidate_eq_some_iff (i : IntSource) :
    candidate s = some i ↔ pendingBit s i.bit ∧ ∀ n < i.bit, ¬ pendingBit s n := by
  change sources.find? (pendingEnabled s) = some i ↔ _
  simp only [List.find?_eq_some_iff_getElem, Bool.not_eq_true', ← Bool.not_eq_true, pendingEnabled_iff, bit_getElem_sources]
  refine and_congr_right fun _ => ⟨?_, fun h => ?_⟩
  · rintro ⟨n, hn, rfl, h⟩
    rwa [bit_getElem_sources]
  · obtain ⟨hi, heq⟩ := getElem_sources_bit i
    exact ⟨i.bit, hi, heq, h⟩

end Sys2Proof.Machine

open Sys2Proof Sys2Proof.Machine

/-- Settles O54: the list of sources is searched in the order of their bits. -/
theorem candidateIsLowestRequestedAndEnabled : Obligations.CandidateIsLowestRequestedAndEnabled := by
  unfold Obligations.CandidateIsLowestRequestedAndEnabled
  exact fun s => ⟨candidate_eq_none_iff, candidate_eq_some_iff⟩

/-- Settles O55: the entry clears the request bit and IME and pushes PC by two gated writes. -/
theorem interruptEntry : Obligations.InterruptEntry := by
  unfold Obligations.InterruptEntry
  refine fun s => ⟨serviceInterrupts_of_none_to_take, fun i hc hime => ?_⟩
  rw [serviceInterrupts_of_candidate hc hime]
  exact ⟨_, getLsbD_and_not_bitMask s.io.ifReg i, takeInterrupt_storesTwoBytesAt i s, takeInterrupt_ime i s,
    takeInterrupt_regs i s⟩

end

section
/-! Steps (60_exceptions.md R331): what a step of the core is, the fault that ends the run, and the idle core that nothing
wakes. -/

namespace Sys2Proof.Machine

variable {s t : State} {k : Fault}

/-! ### Every state has an answer -/

theorem step_of_fault (h : s.fault = some k) : step s = .fault k := by simp [step, h]

theorem step_of_halted (hs : s.fault = none) (hh : s.halted = true) :
    step s = .next (closeStep s.params.haltIdleCycles s) := by simp [step, hs, hh]

theorem step_of_running (hs : s.fault = none) (hh : s.halted = false) (ht : exec (decodeAt s s.regs.pc) s = .next t) :
    step s = .next (finishInstr (decodeAt s s.regs.pc) s t) := by simp [step, hs, hh, ht]

theorem exists_step (hs : s.fault = none) : ∃ t, step s = .next t := by
  cases hh : s.halted with
  | true => exact ⟨_, step_of_halted hs hh⟩
  | false =>
    obtain ⟨t, ht⟩ := exec_next (decodeAt s s.regs.pc) s
    exact ⟨_, step_of_running hs hh ht⟩

theorem fault_eq_none_of_step (h : step s = .next t) : s.fault = none := by
  cases hf : s.fault with
  | none => rfl
  | some k => cases (step_of_fault hf).symm.trans h

/-- A step that records a fault records it and does nothing else (R301, R309). -/
theorem eq_raiseFatal_of_step_records_fault (h : step s = .next t) (ht : t.fault = some k) : t = raiseFatal k s := by
  have hs := fault_eq_none_of_step h
  obtain ⟨-, hexec⟩ := exec_of_step_records_fault hs h ht
  rcases exec_fault_cases hexec with kept | ⟨op, -, rfl⟩ | ⟨pad, -, rfl⟩
  · cases ht.symm.trans (kept.trans hs)
  · cases ht
    rfl
  · cases ht
    rfl

/-! ### The idle core -/

theorem stepTimer_ie (c : Nat) (s : State) : (stepTimer c s).io.ie = s.io.ie := by
  cases h : s.io.tac.getLsbD 2 with
  | false => exact congrArg (·.io.ie) (stepTimer_of_disabled c h)
  | true => exact congrArg (·.io.ie) (stepTimer_of_enabled c h)

theorem environmentStep_ie (s : State) : (environmentStep s).io.ie = s.io.ie := by
  rw [(envChange_environmentStep s).frame]

theorem environmentStep_read (s : State) (k : Nat) (hk : k < 0xFF00 ∨ 0xFF7F < k) :
    (environmentStep s).mem.read k = s.mem.read k := (envChange_environmentStep s).storage k hk

/-- With no source enabled there is no candidate, whatever is requested (R304). -/
theorem candidate_eq_none_of_ie (h : s.io.ie.toNat % 32 = 0) : candidate s = none := by
  rw [candidate_eq_none_iff]
  rintro n hn ⟨-, hie⟩
  have low : (s.io.ie.toNat % 2 ^ 5).testBit n = s.io.ie.getLsbD n := by
    rw [Nat.testBit_mod_two_pow, decide_eq_true hn, Bool.true_and]
    rfl
  rw [hie, show s.io.ie.toNat % 2 ^ 5 = 0 from h, Nat.zero_testBit] at low
  cases low

/-- A step of the idle core leaves it idle, its registers, IME and all storage outside the I/O block (R310, R312, R330). -/
theorem step_of_terminalIdle (h : TerminalIdle s) :
    ∃ t, step s = .next t ∧ TerminalIdle t ∧ t.regs = s.regs ∧ t.ime = s.ime ∧
      ∀ k, k < 0xFF00 ∨ 0xFF7F < k → t.mem.read k = s.mem.read k := by
  obtain ⟨hs, hh, hie⟩ := h
  refine ⟨_, step_of_halted hs hh, ?_⟩
  generalize s.params.haltIdleCycles = c
  have idle : TerminalIdle (environmentStep (stepTimer c (dmaCountdown c s))) := by
    refine ⟨?_, ?_, ?_⟩
    · simpa [Safe, dmaCountdown] using hs
    · simpa [dmaCountdown] using hh
    · rw [environmentStep_ie, stepTimer_ie]
      exact hie
  have unwoken : closeStep c s = environmentStep (stepTimer c (dmaCountdown c s)) := by
    rw [closeStep_of_halted c idle.2.1, serviceHaltInterrupts_of_none (candidate_eq_none_of_ie idle.2.2)]
  rw [unwoken]
  refine ⟨idle, by simp [dmaCountdown], by simp [dmaCountdown], fun k hk => ?_⟩
  rw [environmentStep_read _ k hk, stepTimer_mem]
  rfl

end Sys2Proof.Machine

open Sys2Proof Sys2Proof.Machine

/-- Settles O6: the decoder on the list of three bytes answers what the step decodes, and the step's close unfolds to the
work in its order. -/
theorem stepRunsDecodedInstruction : Obligations.StepRunsDecodedInstruction := by
  unfold Obligations.StepRunsDecodedInstruction
  refine ⟨fun s i rest hs hh hd t ht => ?_, fun s hs hh => step_of_halted hs hh⟩
  obtain rfl : decodeAt s s.regs.pc = i := decode_three_eq hd
  exact step_of_running hs hh ht

/-- Settles O8: every instruction has a next state, so every state without a fault steps. -/
theorem everyStepAnswers : Obligations.EveryStepAnswers := by
  unfold Obligations.EveryStepAnswers
  exact ⟨exec_next, fun _ => exists_step, fun _ _ => step_of_fault⟩

/-- Settles O10: a step that records a fault is STOP's or UNDEFINED's, which record it and nothing else. -/
theorem fatalFaultChangesNothingElse : Obligations.FatalFaultChangesNothingElse := by
  unfold Obligations.FatalFaultChangesNothingElse
  exact fun s t k _ h ht => ⟨eq_raiseFatal_of_step_records_fault h ht, step_of_fault ht⟩

/-- Settles O11, by induction on the number of steps: the idle core has no candidate and stays idle. -/
theorem terminalIdleLastsForEver : Obligations.TerminalIdleLastsForEver := by
  unfold Obligations.TerminalIdleLastsForEver
  intro n
  induction n with
  | zero => exact fun s h => ⟨s, rfl, h, rfl, rfl, fun _ _ => rfl⟩
  | succ n ih =>
    intro s h
    obtain ⟨t, hst, ht, hregs, hime, hmem⟩ := step_of_terminalIdle h
    obtain ⟨u, hrun, hu, hregs', hime', hmem'⟩ := ih t ht
    have first : core.step s = .next t := hst
    have run : core.run (n + 1) s = core.run n t := by simp only [Host.Core.run, first]
    exact ⟨u, run.trans hrun, hu, hregs'.trans hregs, hime'.trans hime, fun k hk => (hmem' k hk).trans (hmem k hk)⟩

end

section
/-! The invariant (10_state.md sections 3, 6 and 9), and what no step changes. -/

namespace Sys2Proof.Machine

variable {s t : State}

/-! ### The invariant of the machine -/

/-- Of the register file the invariant sees the low nibble of F only. -/
theorem inv_withRegs (h : Inv s) (r : Regs) (hf : r.f.toNat % 16 = 0) : Inv { s with regs := r } :=
  { h with flagNibble := hf }

theorem inv_memWrite (a : Word) (v : Byte) (h : Inv s) : Inv (memWrite s a v) where
  storage := memWrite_wf s a v h.storage
  flagNibble := by simpa using h.flagNibble
  dmaRemaining := memWrite_dmaRemaining s a v h.dmaRemaining
  divAcc := memWrite_divAcc s a v h.divAcc
  timaAcc := by simpa using h.timaAcc
  eiPending := by simpa using h.eiPending

theorem inv_stepTimer (c : Nat) (h : Inv s) : Inv (stepTimer c s) where
  storage := by simpa using h.storage
  flagNibble := by simpa using h.flagNibble
  dmaRemaining := by simpa using h.dmaRemaining
  divAcc := by
    rw [stepTimer_divAcc]
    exact Nat.mod_lt _ (by decide)
  timaAcc := (stepTimer_timaAcc_lt c s).trans_le (timerPeriod_le _)
  eiPending := by simpa using h.eiPending

theorem inv_envEvent (e : EnvEvent) (h : Inv s) : Inv (envEvent s e) where
  storage := envEvent_wf s e h.storage
  flagNibble := by simpa using h.flagNibble
  dmaRemaining := by simpa using h.dmaRemaining
  divAcc := by simpa using h.divAcc
  timaAcc := by simpa using h.timaAcc
  eiPending := by simpa using h.eiPending

theorem inv_of_not_pending (h : Inv s) (b : Bool) : Inv { s with ime := b, eiPending := false } :=
  { h with eiPending := fun hp => nomatch hp }

theorem inv_keptByExec : KeptByExec Inv where
  setR8 _ r _ h := by cases r <;> exact inv_withRegs h _ h.flagNibble
  setR16 _ r _ h := by cases r <;> exact inv_withRegs h _ h.flagNibble
  setStk _ r w h := by
    cases r with
    | af => exact inv_withRegs h _ (and_0xF0_toNat_mod_16 (loByte w))
    | _ => exact inv_withRegs h _ h.flagNibble
  setFlags _ fl h := inv_withRegs h _ fl.toByte_toNat_mod_16
  setSp _ _ h := inv_withRegs h _ h.flagNibble
  setPc _ _ h := inv_withRegs h _ h.flagNibble
  write _ a v := inv_memWrite a v
  halt _ h := { h with }
  di _ h := inv_of_not_pending h false
  ei _ h hd := { h with eiPending := fun hp => absurd (h.eiPending hp).1 (by simp [hd]) }
  eiDelay _ h hd := { h with eiPending := fun hp => ⟨hd, by simpa using hp⟩ }
  fatal _ _ h := { h with }

theorem inv_keptByClose : KeptByClose Inv where
  settle s t _ h := by
    unfold settleEi
    split
    · exact inv_of_not_pending h true
    · exact h
  countdown _ _ h := { h with dmaRemaining := (Nat.sub_le _ _).trans h.dmaRemaining }
  timer _ c := inv_stepTimer c
  event _ e := inv_envEvent e
  schedule _ _ h := { h with }
  wake _ h := { h with }
  accept _ _ h := { h with eiPending := fun hp => ⟨(h.eiPending hp).1, rfl⟩ }

/-- RETI sets IME and may do so while an EI waits; the settling of the EI, which follows at once, ends the wait (log
entry 7). -/
theorem inv_settleEi_returnFromInterrupt (h : Inv s) : Inv (settleEi s (returnFromInterrupt s)) := by
  have regs := inv_withRegs h (returnFromInterrupt s).regs h.flagNibble
  cases hp : s.eiPending with
  | true =>
    have settled : settleEi s (returnFromInterrupt s) =
        { returnFromInterrupt s with ime := true, eiPending := false } := by
      have waits : (returnFromInterrupt s).eiPending = true := hp
      simp [settleEi, hp, waits]
    rw [settled]
    exact inv_of_not_pending regs true
  | false =>
    rw [settleEi_of_not_pending _ hp]
    exact { regs with eiPending := fun waits => nomatch hp.symm.trans waits }

theorem inv_settleEi_exec {i : Instr} (h : Inv s) (ht : exec i s = .next t) : Inv (settleEi s t) := by
  rcases eq_or_ne i .reti with rfl | hi
  · cases ht
    exact inv_settleEi_returnFromInterrupt h
  · obtain ⟨u, hu, inv⟩ := exec_keeps inv_keptByExec i s h fun e => absurd e hi
    cases hu.symm.trans ht
    exact inv_keptByClose.settle s t h inv

/-! ### What no step changes -/

/-- `t` has the ROM images and the parameters of `s`, and its boot latch is set if that of `s` is. -/
structure KeepsFixed (s t : State) : Prop where
  rom       : ∀ k, bootRomBase ≤ k → t.mem.read k = s.mem.read k
  params    : t.params = s.params
  hasBooted : s.hasBooted = true → t.hasBooted = true

theorem keepsFixed_keptByExec (s : State) : KeptByExec (KeepsFixed s) where
  setR8 _ r _ h := by cases r <;> exact { h with }
  setR16 _ r _ h := by cases r <;> exact { h with }
  setStk _ r _ h := by cases r <;> exact { h with }
  setFlags _ _ h := { h with }
  setSp _ _ h := { h with }
  setPc _ _ h := { h with }
  write t a v h := {
    rom := fun k hk => (memWrite_rom t a v k hk).trans (h.rom k hk)
    params := (memWrite_params t a v).trans h.params
    hasBooted := fun hb => memWrite_hasBooted t a v (h.hasBooted hb) }
  halt _ h := { h with }
  di _ h := { h with }
  ei _ h _ := { h with }
  eiDelay _ h _ := { h with }
  fatal _ _ h := { h with }

theorem keepsFixed_keptByClose (s : State) : KeptByClose (KeepsFixed s) where
  settle _ _ _ h := by
    unfold settleEi
    split
    · exact { h with }
    · exact h
  countdown _ _ h := { h with }
  timer t c h := {
    rom := fun k hk => by rw [stepTimer_mem, h.rom k hk]
    params := (stepTimer_params c t).trans h.params
    hasBooted := fun hb => (stepTimer_hasBooted c t).trans (h.hasBooted hb) }
  event t e h := {
    rom := fun k hk => (envEvent_read t e k (.inr (lt_of_lt_of_le (by decide) hk))).trans (h.rom k hk)
    params := (envEvent_params t e).trans h.params
    hasBooted := fun hb => (envEvent_hasBooted t e).trans (h.hasBooted hb) }
  schedule _ _ h := { h with }
  wake _ h := { h with }
  accept _ _ h := { h with }

theorem keepsFixed_step (h : step s = .next t) : KeepsFixed s t :=
  step_keeps (keepsFixed_keptByExec s) (fun _ h => { h with }) (keepsFixed_keptByClose s) ⟨fun _ _ => rfl, rfl, id⟩ h

end Sys2Proof.Machine

open Sys2Proof Sys2Proof.Machine

/-- Settles O14: every shared operation keeps the invariant but RETI's, which the settling of a waiting EI repairs; so do
the close of a step and the recording of a fault. -/
theorem stepKeepsInvariant : Obligations.StepKeepsInvariant := by
  unfold Obligations.StepKeepsInvariant
  intro s t inv h
  rcases step_cases h with ⟨-, rfl⟩ | ⟨-, u, hu, ⟨hf, rfl⟩ | ⟨-, rfl⟩⟩
  · exact closeStep_keeps inv_keptByExec inv_keptByClose _ s inv
  · obtain ⟨k, hk⟩ := Option.isSome_iff_exists.1 hf
    rw [eq_raiseFatal_of_step_records_fault h hk]
    exact inv_keptByExec.fatal s k inv
  · exact closeStep_keeps inv_keptByExec inv_keptByClose _ _ (inv_settleEi_exec inv hu)

/-- Settles O16: no write of an instruction and nothing in the close of a step reaches a ROM cell, a parameter, or clears
the latch. -/
theorem romParametersAndBootLatchAreStable : Obligations.RomParametersAndBootLatchAreStable := by
  unfold Obligations.RomParametersAndBootLatchAreStable
  intro s t h
  obtain ⟨rom, params, hasBooted⟩ := keepsFixed_step h
  exact ⟨rom, params, hasBooted⟩

/-- Settles O12: the fields of the reset state. -/
theorem resetValues : Obligations.ResetValues := by
  unfold Obligations.ResetValues
  and_intros <;> rfl

/-- Settles O13: storage is empty, F and the counters are zero, no EI waits. -/
theorem resetMeetsInvariant : Obligations.ResetMeetsInvariant where
  storage := Memory.wf_nil
  flagNibble := rfl
  dmaRemaining := Nat.zero_le 648
  divAcc := by decide
  timaAcc := by decide
  eiPending := nofun

end

section
/-! The address map outside work RAM (20_memory.md): the bank controller, external RAM, the I/O block with its registers, and
the OAM DMA. -/

namespace Sys2Proof.Machine

variable {s t : State} {a : Word} {k : Nat}

/-! ### The bank controller and external RAM -/

/-- The bank's low part is never 0, so the bank is no multiple of 32 (R58, C4). -/
theorem romBank_eq (m : Mbc) :
    ∃ lo, lo = (if m.bankLo.toNat = 0 then 1 else m.bankLo.toNat) ∧ 1 ≤ lo ∧ lo < 32 ∧
      romBank m = 32 * m.bankHi.toNat + lo := by
  have hlo : m.bankLo.toNat < 32 := m.bankLo.isLt
  have zero : m.bankLo = 0 ↔ m.bankLo.toNat = 0 := BitVec.toNat_inj (y := 0#5) |>.symm
  refine ⟨_, rfl, ?_, ?_, ?_⟩
  · split <;> omega
  · split <;> omega
  · simp only [romBank, zero, Nat.mul_comm]

theorem target_extram (hlo : 0xA000 ≤ a.toNat) (hhi : a.toNat ≤ 0xBFFF) (hram : s.mbc.ramEnable = true) :
    target s a = .cell (extramBase + 0x2000 * ramBank s.mbc + (a.toNat - 0xA000)) := by
  simp (disch := omega) only [target, if_neg, if_pos, hram, if_true, Target.cell.injEq]
  omega

theorem target_extramOff (hlo : 0xA000 ≤ a.toNat) (hhi : a.toNat ≤ 0xBFFF) (hram : s.mbc.ramEnable = false) :
    target s a = .extramOff := by
  simp (disch := omega) only [target, if_neg, if_pos, hram, Bool.false_eq_true, if_false]

/-- Outside the lockout a write below 0x8000 is a bank command and nothing else (R59). -/
theorem memWrite_mbcCommand (v : Byte) (hd : s.dmaRemaining = 0) (ha : a.toNat < 0x8000) :
    memWrite s a v = { s with mbc := mbcCommand s.mbc a v } := by
  rw [memWrite_of_not_denied v (denied_eq_false (.inl hd) (by omega) (by omega)), rawWrite_below_0x8000 v ha]

/-! ### Fields of a byte by arithmetic -/

theorem extractLsb'_eq_ofNat (v : Byte) (start len : Nat) :
    v.extractLsb' start len = BitVec.ofNat len (v.toNat / 2 ^ start) := by
  rw [BitVec.extractLsb', Nat.shiftRight_eq_div_pow]

theorem lowNibble_beq (v : Byte) : (v.extractLsb' 0 4 == 0xA) = decide (v.toNat % 16 = 0xA) :=
  decide_eq_decide.2 (BitVec.toNat_inj (y := 0xA#4)).symm

theorem getLsbD_eq_decide (v : Byte) (n : Nat) : v.getLsbD n = decide (v.toNat / 2 ^ n % 2 = 1) :=
  Nat.testBit_eq_decide_div_mod_eq

/-! ### The I/O block, IE and the unassigned range -/

theorem target_unusable (ha : 0xFEA0 ≤ a.toNat ∧ a.toNat ≤ 0xFEFF) : target s a = .unusable := by
  simp (disch := omega) only [target, if_neg, if_pos]

/-- The addresses of the registers of the I/O block but P1 (R35). -/
def ioRegAddresses : List Nat := [0xFF04, 0xFF05, 0xFF06, 0xFF07, 0xFF0F, 0xFF40, 0xFF41, 0xFF46, 0xFF50]

theorem ioRegAt_plainIo {n : Nat} (hn : 0xFF01 ≤ n ∧ n ≤ 0xFF7F) (hreg : n ∉ ioRegAddresses) : ioRegAt n = none := by
  simp only [ioRegAddresses, List.mem_cons, List.not_mem_nil, or_false, not_or] at hreg
  simp (disch := omega) only [ioRegAt, if_neg]

theorem target_plainIo (ha : 0xFF01 ≤ a.toNat ∧ a.toNat ≤ 0xFF7F) (hreg : a.toNat ∉ ioRegAddresses) :
    target s a = .cell a.toNat := by
  simp (disch := omega) only [target, if_neg, ioRegAt_plainIo ha hreg]

/-- Outside the lockout no gate closes an address above OAM. -/
theorem denied_above_oam (hd : s.dmaRemaining = 0) (ha : 0xFEA0 ≤ a.toNat) : denied s a = false :=
  denied_eq_false (.inl hd) (by omega) (by omega)

theorem memRead_of_target_reg {r : IoReg} (hd : s.dmaRemaining = 0) (ht : target s a = .reg r) :
    memRead s a = readIoReg s r := by
  have ha : 0xFF00 ≤ a.toNat := ge_of_target_reg ht
  rw [memRead_of_not_denied (denied_above_oam hd (by omega)), rawRead, ht]

theorem stat_write_eq (v old : Byte) :
    (v &&& 0xF8) ||| (old &&& 0x07) = BitVec.ofNat 8 (8 * (v.toNat / 8) + old.toNat % 8) := by
  apply BitVec.eq_of_getLsbD_eq
  intro n hn
  have low : old.toNat % 2 ^ 3 < 2 ^ 3 := Nat.mod_lt _ (by decide)
  have sum : (2 ^ 3 * (v.toNat / 2 ^ 3) + old.toNat % 2 ^ 3).testBit n =
      if n < 3 then old.getLsbD n else v.getLsbD n := by
    rw [Nat.testBit_two_pow_mul_add _ low]
    split
    next h => rw [Nat.testBit_mod_two_pow, decide_eq_true h, Bool.true_and]; rfl
    next h => rw [Nat.testBit_div_two_pow, Nat.sub_add_cancel (by omega)]; rfl
  rw [BitVec.getLsbD_ofNat, decide_eq_true hn, Bool.true_and]
  refine Eq.trans ?_ sum.symm
  interval_cases n <;> simp

theorem Joypad.getLsbD_action (j : Joypad) :
    j.action.getLsbD 0 = j.a ∧ j.action.getLsbD 1 = j.b ∧ j.action.getLsbD 2 = j.select ∧ j.action.getLsbD 3 = j.start := by
  unfold Joypad.action
  cases j.a <;> cases j.b <;> cases j.select <;> cases j.start <;> exact ⟨rfl, rfl, rfl, rfl⟩

theorem Joypad.getLsbD_direction (j : Joypad) :
    j.direction.getLsbD 0 = j.right ∧ j.direction.getLsbD 1 = j.left ∧ j.direction.getLsbD 2 = j.up ∧
      j.direction.getLsbD 3 = j.down := by
  unfold Joypad.direction
  cases j.right <;> cases j.left <;> cases j.up <;> cases j.down <;> exact ⟨rfl, rfl, rfl, rfl⟩

/-- The bits a read of P1 composes (R77). -/
theorem getLsbD_composeP1 (sel : BitVec 2) (j : Joypad) (n : Nat) :
    (composeP1 sel j).getLsbD n =
      match n with
      | 0 => !((!sel.getLsbD 1 && j.a) || (!sel.getLsbD 0 && j.right))
      | 1 => !((!sel.getLsbD 1 && j.b) || (!sel.getLsbD 0 && j.left))
      | 2 => !((!sel.getLsbD 1 && j.select) || (!sel.getLsbD 0 && j.up))
      | 3 => !((!sel.getLsbD 1 && j.start) || (!sel.getLsbD 0 && j.down))
      | 4 => sel.getLsbD 0
      | 5 => sel.getLsbD 1
      | 6 => true
      | 7 => true
      | _ => false := by
  have bits : (composeP1 sel j).getLsbD n =
      if n < 4 then (~~~((if sel.getLsbD 1 then 0 else j.action) ||| (if sel.getLsbD 0 then 0 else j.direction))).getLsbD n
      else ((0b11 : BitVec 2) ++ sel).getLsbD (n - 4) := BitVec.getLsbD_append
  obtain ⟨a0, a1, a2, a3⟩ := j.getLsbD_action
  obtain ⟨d0, d1, d2, d3⟩ := j.getLsbD_direction
  rw [bits, BitVec.getLsbD_not, BitVec.getLsbD_or, BitVec.getLsbD_append]
  match n with
  | 0 | 1 | 2 | 3 => cases sel.getLsbD 0 <;> cases sel.getLsbD 1 <;> simp [-BitVec.getLsbD_eq_getElem, *]
  | 4 | 5 | 6 | 7 => rfl
  | n + 8 => simp

/-! ### The OAM DMA -/

/-- Storage replaced. -/
theorem rawRead_withMem {m : Memory} (hcell : ∀ k, target s a = .cell k → m.read k = s.mem.read k)
    (hrom : ∀ k, target s a = .rom k → m.read k = s.mem.read k) : rawRead { s with mem := m } a = rawRead s a := by
  have same : target { s with mem := m } a = target s a := rfl
  unfold rawRead
  rw [same]
  cases ht : target s a with
  | cell k => exact hcell k ht
  | rom k => exact hrom k ht
  | reg r => cases r <;> rfl
  | extramOff => rfl
  | unusable => rfl

/-- Only its own address names a byte of OAM. -/
theorem toNat_eq_of_target_oam (ht : target s a = .cell k) (hk : 0xFE00 ≤ k ∧ k ≤ 0xFE9F) : a.toNat = k := by
  simp only [target] at ht
  repeat' split at ht
  all_goals simp only [Target.cell.injEq, reduceCtorEq, extramBase] at ht
  all_goals omega

/-- The copy reads each source byte before it could overwrite it: page 0xFE itself is copied byte onto byte (R74, D16). -/
theorem copyToOam_read_source (v : Byte) {i n : Nat} (hi : i < n) (hn : n ≤ 160) :
    (copyToOam v n s).read (0xFE00 + i) = rawRead s (BitVec.ofNat 16 (256 * v.toNat + i)) := by
  have hv : v.toNat < 256 := v.isLt
  have source : wordOf v 0 + BitVec.ofNat 16 i = BitVec.ofNat 16 (256 * v.toNat + i) := by
    apply BitVec.eq_of_toNat_eq
    simp only [BitVec.toNat_add, wordOf_toNat, BitVec.toNat_ofNat, show (0 : Byte).toNat = 0 from rfl]
    omega
  have at_source : (BitVec.ofNat 16 (256 * v.toNat + i)).toNat = 256 * v.toNat + i := by
    rw [BitVec.toNat_ofNat]
    omega
  rw [show 0xFE00 + i = oamKey i from rfl, copyToOam_read_copied v hi, source]
  refine rawRead_withMem (fun k ht => copyToOam_read v i s k ?_) (fun k ht => copyToOam_read v i s k ?_)
  · by_contra! inside
    have := toNat_eq_of_target_oam ht (by omega)
    omega
  · have hk : bootRomBase ≤ k := target_rom_ge ht
    simp only [bootRomBase] at hk
    omega

/-- A transfer stores the page, copies into OAM and opens the window. -/
theorem startDma_eq (v : Byte) (s : State) :
    startDma v s = { s with io := { s.io with dma := v }, mem := (startDma v s).mem, dmaRemaining := 648 } := by
  unfold startDma
  generalize 160 = n
  rfl

theorem denied_of_lockout (hd : s.dmaRemaining > 0) (ha : a.toNat < 0xFF80 ∨ a.toNat = 0xFFFF) : denied s a = true :=
  denied_iff.2 (.inl ⟨hd, by omega⟩)

theorem memRead_of_denied (hd : denied s a = true) : memRead s a = 0xFF := if_pos hd

theorem memWrite_of_denied (v : Byte) (hd : denied s a = true) : memWrite s a v = s := if_pos hd

end Sys2Proof.Machine

open Sys2Proof Sys2Proof.Machine

/-- Settles O21: the bank is 32 times the high latch and a low part of 1 to 31. -/
theorem switchableBankIsNeverAMultipleOf32 : Obligations.SwitchableBankIsNeverAMultipleOf32 := by
  unfold Obligations.SwitchableBankIsNeverAMultipleOf32
  intro s a hlo hhi
  obtain ⟨lo, hdef, hpos, hlt, hbank⟩ := romBank_eq s.mbc
  have hhi2 : s.mbc.bankHi.toNat < 4 := s.mbc.bankHi.isLt
  refine ⟨32 * s.mbc.bankHi.toNat + lo, by rw [hdef], ?_, by omega, by omega, by omega⟩
  rw [rawRead_switchableBank hlo hhi, hbank]

/-- Settles O26: with RAM enabled an address of the window names a cell of the selected bank, with RAM disabled none. -/
theorem externalRamIsBankedAndGated : Obligations.ExternalRamIsBankedAndGated := by
  unfold Obligations.ExternalRamIsBankedAndGated
  intro s a v ⟨hlo, hhi⟩
  refine ⟨fun hram => ⟨ramBank s.mbc, rfl, ?_⟩, fun hram => ?_⟩
  · have ht := target_extram hlo hhi hram
    rw [rawWrite_cell v (by omega) ht]
    exact ⟨rawRead_cell ht, rfl, rawRead_storeCell_same v ht⟩
  · have ht := target_extramOff hlo hhi hram
    have off : offByte s.params.extramOff = if s.params.extramOff = .zeros then 0x00 else 0xFF := by
      cases s.params.extramOff <;> rfl
    exact ⟨by simp only [rawRead, ht, off], by simp only [rawWrite, ht, ite_eq_right_iff]; omega⟩

/-- Settles O27: the write stores one cell, which is read through every address that names it. -/
theorem storedByteIsReadBackAndOthersKept : Obligations.StoredByteIsReadBackAndOthersKept := by
  unfold Obligations.StoredByteIsReadBackAndOthersKept
  intro s a v k hd ht
  rw [memWrite_of_target_cell v hd ht]
  exact ⟨rfl, memRead_storeCell v (target_cell_lt ht), fun j hj => Memory.read_write_ne _ _ _ _ hj⟩

/-- Settles O28: the trigger outside a window is the transfer, inside one it is denied. -/
theorem oamDmaCopiesAPage : Obligations.OamDmaCopiesAPage := by
  unfold Obligations.OamDmaCopiesAPage
  refine fun s v => ⟨fun hd => ?_, fun hd => memWrite_of_denied v (denied_of_lockout hd (.inl (by decide)))⟩
  simp only [memWrite_dma v hd]
  refine ⟨startDma_eq v s, fun i hi => ?_, fun k hk => ?_⟩
  · rw [startDma_mem]
    exact copyToOam_read_source v hi (Nat.le_refl 160)
  · rw [startDma_mem]
    exact copyToOam_read v 160 { s with io := { s.io with dma := v } } k (by omega)

/-- Settles O19: the lockout denies all but high RAM, and 0xFF is RST 38H. -/
theorem lockoutDeniesAllButHighRam : Obligations.LockoutDeniesAllButHighRam := by
  unfold Obligations.LockoutDeniesAllButHighRam
  refine ⟨fun s => ⟨?_, rfl⟩, fun s a hd => ⟨fun ha => ?_, fun ha => ?_⟩⟩
  · rw [lcdOn, getLsbD_eq_decide]
    have h := s.io.lcdc.isLt
    rw [decide_eq_decide]
    omega
  · have closed := denied_of_lockout hd ha
    have read := memRead_of_denied closed
    refine ⟨read, fun v => memWrite_of_denied v closed, ?_⟩
    rw [decodeAt, read]
    rfl
  · have opened : denied s a = false := denied_eq_false (.inr ha) (by omega) (by omega)
    have ht : target s a = .cell a.toNat := target_plainRam (.inr (.inr (.inr ha)))
    exact ⟨memRead_cell opened ht, fun v => memWrite_of_target_cell v opened ht⟩

/-- Settles O22: the range of the address chooses the latch, the fields of the byte its value. -/
theorem bankCommands : Obligations.BankCommands := by
  unfold Obligations.BankCommands
  intro s a v hd
  have command {a : Word} : a.toNat < 0x8000 → memWrite s a v = { s with mbc := mbcCommand s.mbc a v } :=
    memWrite_mbcCommand v hd
  refine ⟨fun h => ?_, fun h1 h2 => ?_, fun h1 h2 => ?_, fun h1 h2 => ?_⟩
  · rw [command (by omega), mbcCommand, if_pos h, lowNibble_beq]
  · rw [command (by omega), mbcCommand, if_neg (by omega), if_pos h2]
    rfl
  · rw [command (by omega), mbcCommand, if_neg (by omega), if_neg (by omega), if_pos h2]
    rfl
  · rw [command (by omega), mbcCommand, if_neg (by omega), if_neg (by omega), if_neg (by omega), getLsbD_eq_decide,
      Nat.pow_zero, Nat.div_one]

/-- Settles O29: outside the lockout a write does what its target says. -/
theorem ioRegisterWrites : Obligations.IoRegisterWrites := by
  unfold Obligations.IoRegisterWrites
  intro s v hd
  have reg {a : Word} {r : IoReg} : target s a = .reg r → memWrite s a v = writeIoReg s r v := memWrite_of_target_reg v hd
  refine ⟨?_, reg (r := .div) rfl, reg (r := .tima) rfl, reg (r := .tma) rfl, reg (r := .tac) rfl, reg (r := .ifReg) rfl,
    reg (r := .lcdc) rfl, ?_, reg (r := .boot) rfl, reg (r := .ie) rfl, fun a ha => ?_, fun a ha hreg => ?_⟩
  · rw [reg (r := .p1) rfl, writeIoReg, extractLsb'_eq_ofNat]
    rfl
  · rw [reg (r := .stat) rfl, writeIoReg, stat_write_eq]
  · rw [memWrite_of_not_denied v (denied_above_oam hd ha.1), rawWrite, target_unusable ha]
    exact ite_eq_right_iff.2 fun h => by omega
  · exact memWrite_of_target_cell v (denied_above_oam hd (by omega)) (target_plainIo ha hreg)

/-- Settles O30: outside the lockout a read returns what its target holds. -/
theorem ioRegisterReads : Obligations.IoRegisterReads := by
  unfold Obligations.IoRegisterReads
  intro s hd
  have reg {a : Word} {r : IoReg} : target s a = .reg r → memRead s a = readIoReg s r := memRead_of_target_reg hd
  refine ⟨fun n => ?_, reg (r := .div) rfl, reg (r := .tima) rfl, reg (r := .tma) rfl, reg (r := .tac) rfl,
    reg (r := .ifReg) rfl, reg (r := .lcdc) rfl, reg (r := .stat) rfl, reg (r := .dma) rfl, reg (r := .boot) rfl,
    reg (r := .ie) rfl, fun a ha => ?_, fun a ha hreg => ?_⟩
  · rw [reg (r := .p1) rfl]
    exact getLsbD_composeP1 s.io.p1Select s.joypad n
  · rw [memRead_of_not_denied (denied_above_oam hd ha.1), rawRead, target_unusable ha]
  · exact memRead_cell (denied_above_oam hd (by omega)) (target_plainIo ha hreg)

end

section
/-! The meaning of each family of instructions over its operands, and the rules from a meaning to what an instruction writes
and leaves: a register, a pair, the register file, a byte stored, a pair pushed. -/

namespace Sys2Proof.Machine

variable {i : Instr} {s t : State} {f : Byte} {len : Nat}

/-! ### Families -/

theorem exec_mkLd_reg_reg (r q : Reg8) (s : State) : exec (mkLd (.reg r) (.reg q)) s = .next (loadRegReg r q s) := by
  cases r <;> cases q <;> rfl

theorem exec_mkLd_reg_atHl (r : Reg8) (s : State) : exec (mkLd (.reg r) .atHl) s = .next (loadRegMem r s) := by
  cases r <;> rfl

theorem exec_mkLd_atHl_reg (r : Reg8) (s : State) : exec (mkLd .atHl (.reg r)) s = .next (storeReg r s) := by
  cases r <;> rfl

theorem exec_mkLdImm_reg (r : Reg8) (d8 : Byte) (s : State) : exec (mkLdImm (.reg r) d8) s = .next (loadRegImm r d8 s) := by
  cases r <;> rfl

theorem exec_mkLd16 (r : Reg16) (d16 : Word) (s : State) : exec (mkLd16 r d16) s = .next (load16Imm r d16 s) := by
  cases r <;> rfl

theorem exec_mkInc16 (r : Reg16) (s : State) : exec (mkInc16 r) s = .next (inc16 r s) := by cases r <;> rfl

theorem exec_mkDec16 (r : Reg16) (s : State) : exec (mkDec16 r) s = .next (dec16 r s) := by cases r <;> rfl

theorem exec_mkAddHl (r : Reg16) (s : State) : exec (mkAddHl r) s = .next (addHl r s) := by cases r <;> rfl

theorem exec_mkPush (p : Stk16) (s : State) : exec (mkPush p) s = .next (pushReg p s) := by cases p <;> rfl

theorem exec_mkPop (p : Stk16) (s : State) : exec (mkPop p) s = .next (popReg p s) := by cases p <;> rfl

theorem exec_mkAlu (op : AluOp) (x : Opd8) (s : State) : exec (mkAlu op x) s = .next (aluOpd op x s) := by
  cases x with
  | reg r => cases op <;> cases r <;> rfl
  | atHl => cases op <;> rfl

theorem exec_mkAluImm (op : AluOp) (d8 : Byte) (s : State) : exec (mkAluImm op d8) s = .next (aluImm op d8 s) := by
  cases op <;> rfl

theorem exec_mkInc8 (x : Opd8) (s : State) : exec (mkInc8 x) s = .next (inc8 x s) := by
  cases x with
  | reg r => cases r <;> rfl
  | atHl => rfl

theorem exec_mkDec8 (x : Opd8) (s : State) : exec (mkDec8 x) s = .next (dec8 x s) := by
  cases x with
  | reg r => cases r <;> rfl
  | atHl => rfl

theorem exec_mkRot (op : RotOp) (x : Opd8) (s : State) : exec (mkRot op x) s = .next (rotateOpd op x s) := by
  cases x with
  | reg r => cases op <;> cases r <;> rfl
  | atHl => cases op <;> rfl

theorem exec_mkBit (b : Octal) (x : Opd8) (s : State) : exec (mkBit b x) s = .next (bitTest b x s) := by
  cases x with
  | reg r => cases b <;> cases r <;> rfl
  | atHl => cases b <;> rfl

theorem exec_mkRes (b : Octal) (x : Opd8) (s : State) : exec (mkRes b x) s = .next (bitReset b x s) := by
  cases x with
  | reg r => cases b <;> cases r <;> rfl
  | atHl => cases b <;> rfl

theorem exec_mkSet (b : Octal) (x : Opd8) (s : State) : exec (mkSet b x) s = .next (bitSet b x s) := by
  cases x with
  | reg r => cases b <;> cases r <;> rfl
  | atHl => cases b <;> rfl

theorem exec_mkJp (cc : Cond) (a16 : Word) (s : State) : exec (mkJp cc a16) s = .next (jumpAbsIf cc a16 s) := by
  cases cc <;> rfl

theorem exec_mkJr (cc : Cond) (e8 : Byte) (s : State) : exec (mkJr cc e8) s = .next (jumpRelIf cc e8 s) := by
  cases cc <;> rfl

theorem exec_mkCall (cc : Cond) (a16 : Word) (s : State) : exec (mkCall cc a16) s = .next (callAbsIf cc a16 s) := by
  cases cc <;> rfl

theorem exec_mkRet (cc : Cond) (s : State) : exec (mkRet cc) s = .next (returnIf cc s) := by cases cc <;> rfl

theorem exec_mkRst (y : Octal) (s : State) : exec (mkRst y) s = .next (restart y s) := by cases y <;> rfl

/-! ### Flags -/

theorem flagByte_eq_toByte (z n h c : Bool) : flagByte z n h c = Flags.toByte { z, n, h, c } := by
  cases z <;> cases n <;> cases h <;> cases c <;> rfl

/-- Four flags that are the given ones make the given byte. -/
theorem toByte_eq_flagByte {fl : Flags} {z n h c : Bool} (hz : fl.z = z) (hn : fl.n = n) (hh : fl.h = h) (hc : fl.c = c) :
    fl.toByte = flagByte z n h c := by
  subst hz hn hh hc
  exact (flagByte_eq_toByte _ _ _ _).symm

/-! ### Registers written -/

/-- No read of memory looks at the register file. -/
theorem onlyRegisters_of_eq (h : t = { s with regs := t.regs }) : OnlyRegisters s t :=
  ⟨h, fun a => by rw [h, memRead_regs]⟩

theorem onlyRegisters_setR8 (s : State) (r : Reg8) (v : Byte) : OnlyRegisters s (s.setR8 r v) :=
  onlyRegisters_of_eq (by cases r <;> rfl)

theorem onlyRegisters_setR16 (s : State) (r : Reg16) (w : Word) : OnlyRegisters s (s.setR16 r w) :=
  onlyRegisters_of_eq (by cases r <;> rfl)

theorem onlyRegisters_withRegs (h : OnlyRegisters s t) (r : Regs) : OnlyRegisters s { t with regs := r } :=
  onlyRegisters_of_eq (by rw [h.1])

theorem getR8_setR8 (s : State) (r q : Reg8) (v : Byte) : (s.setR8 r v).getR8 q = if q = r then v else s.getR8 q := by
  split
  next h => rw [h, State.getR8_setR8_same]
  next h => exact State.getR8_setR8_ne s r q v h

theorem getR16_setR16 (s : State) (r q : Reg16) (w : Word) :
    (s.setR16 r w).getR16 q = if q = r then w else s.getR16 q := by
  split
  next h => rw [h, State.getR16_setR16_same]
  next h => exact State.getR16_setR16_ne s r q w h

theorem getR16_setFlags (s : State) (fl : Flags) (q : Reg16) : (s.setFlags fl).getR16 q = s.getR16 q := by cases q <;> rfl

theorem getR16_advance (s : State) (n : Nat) (q : Reg16) : (s.advance n).getR16 q = s.getR16 q := by cases q <;> rfl

/-- An instruction that writes a register and the flags and moves PC on. -/
theorem writesReg8_of_exec {r : Reg8} {v : Byte} {fl : Flags}
    (h : exec i s = .next (((s.setR8 r v).setFlags fl).advance len)) (hf : fl.toByte = f) : WritesReg8 i s r v f len := by
  refine ⟨_, h, fun q => ?_, hf, s.setR8_regs_sp r v, ?_, ?_⟩
  · rw [State.getR8_advance, State.getR8_setFlags, getR8_setR8]
  · exact congrArg (· + BitVec.ofNat 16 len) (s.setR8_regs_pc r v)
  · exact onlyRegisters_withRegs (onlyRegisters_setR8 s r v) _

/-- The same of one that keeps F. -/
theorem writesReg8_of_exec_keepF {r : Reg8} {v : Byte} (h : exec i s = .next ((s.setR8 r v).advance len)) :
    WritesReg8 i s r v s.regs.f len := by
  refine ⟨_, h, fun q => ?_, s.setR8_regs_f r v, s.setR8_regs_sp r v, ?_, ?_⟩
  · rw [State.getR8_advance, getR8_setR8]
  · exact congrArg (· + BitVec.ofNat 16 len) (s.setR8_regs_pc r v)
  · exact onlyRegisters_withRegs (onlyRegisters_setR8 s r v) _

/-- An instruction that writes a pair or SP and the flags and moves PC on. -/
theorem writesReg16_of_exec {r : Reg16} {w : Word} {fl : Flags}
    (h : exec i s = .next (((s.setR16 r w).setFlags fl).advance len)) (hf : fl.toByte = f) : WritesReg16 i s r w f len := by
  refine ⟨_, h, fun q => ?_, s.setR16_regs_a r w, hf, ?_, ?_⟩
  · rw [getR16_advance, getR16_setFlags, getR16_setR16]
  · exact congrArg (· + BitVec.ofNat 16 len) (s.setR16_regs_pc r w)
  · exact onlyRegisters_withRegs (onlyRegisters_setR16 s r w) _

/-- The same of one that keeps F. -/
theorem writesReg16_of_exec_keepF {r : Reg16} {w : Word} (h : exec i s = .next ((s.setR16 r w).advance len)) :
    WritesReg16 i s r w s.regs.f len := by
  refine ⟨_, h, fun q => ?_, s.setR16_regs_a r w, s.setR16_regs_f r w, ?_, ?_⟩
  · rw [getR16_advance, getR16_setR16]
  · exact congrArg (· + BitVec.ofNat 16 len) (s.setR16_regs_pc r w)
  · exact onlyRegisters_withRegs (onlyRegisters_setR16 s r w) _

theorem writesRegs_of_exec {r : Regs} (h : exec i s = .next { s with regs := r }) : WritesRegs i s r :=
  ⟨_, h, rfl, onlyRegisters_of_eq rfl⟩

/-! ### Bytes stored -/

/-- One gated write, whatever becomes of the register file, is a byte stored. -/
theorem storesByteAt_memWrite (s : State) (a : Word) (v : Byte) (r : Regs) :
    StoresByteAt s { memWrite s a v with regs := r } a v := by
  refine ⟨rfl, fun hd => ?_, fun k hd ht b => ?_, fun k hk hdma => memWrite_read_ne v hk hdma⟩
  · rw [memWrite_of_denied v hd]
    exact onlyRegisters_of_eq rfl
  · rw [memRead_regs, memWrite_of_target_cell v hd ht, memRead_storeCell v (target_cell_lt ht)]

variable {a : Word} {v : Byte}

/-- An instruction that stores a byte, writes HL and moves PC on. -/
theorem storesByte_of_exec_setHl {w : Word} (h : exec i s = .next (((memWrite s a v).setHl w).advance len)) :
    StoresByte i s a v w s.regs.f len :=
  ⟨_, h, storesByteAt_memWrite s a v _, by simp only [State.advance, State.setPc, State.nextPc, State.setHl, memWrite_regs]⟩

/-- One that keeps HL and F. -/
theorem storesByte_of_exec (h : exec i s = .next ((memWrite s a v).advance len)) : StoresByte i s a v s.hl s.regs.f len := by
  refine ⟨_, h, storesByteAt_memWrite s a v _, ?_⟩
  simp only [State.advance, State.setPc, State.nextPc, memWrite_regs, State.hl, hiByte_wordOf, loByte_wordOf]

/-- One that keeps HL and writes the flags. -/
theorem storesByte_of_exec_setFlags {fl : Flags} (h : exec i s = .next (((memWrite s a v).setFlags fl).advance len))
    (hf : fl.toByte = f) : StoresByte i s a v s.hl f len := by
  refine ⟨_, h, storesByteAt_memWrite s a v _, ?_⟩
  simp only [State.advance, State.setPc, State.nextPc, State.setFlags, memWrite_regs, State.hl, hiByte_wordOf, loByte_wordOf,
    hf]

/-! ### The stack -/

variable {w pc : Word}

/-- An instruction that pushes a word and writes PC. -/
theorem pushes_of_exec (h : exec i s = .next ((push16 w s).setPc pc)) : Pushes i s w pc := by
  rw [push16_eq] at h
  exact ⟨_, h, storesTwoBytesAt_memWrite s _ _ _ _ _, rfl⟩

/-- A pop reads the word at SP and moves SP up by two. -/
theorem pop16_snd_eq (s : State) : (pop16 s).2 = s.setSp (s.regs.sp + 2) := by
  rw [pop16_snd]
  exact congrArg s.setSp (by bv_omega)

/-! ### Conditions and words by arithmetic -/

theorem highPage_eq_ofNat (a8 : Byte) : highPage a8 = BitVec.ofNat 16 (0xFF00 + a8.toNat) := by
  have h : a8.toNat < 256 := a8.isLt
  apply BitVec.eq_of_toNat_eq
  simp only [highPage, wordOf_toNat, BitVec.toNat_ofNat, show (0xFF : Byte).toNat = 255 from rfl]
  omega

theorem loByte_eq_ofNat (w : Word) : loByte w = BitVec.ofNat 8 w.toNat := rfl

theorem hiByte_eq_ofNat (w : Word) : hiByte w = BitVec.ofNat 8 (w.toNat / 256) := by
  apply BitVec.eq_of_toNat_eq
  rw [hiByte_toNat, BitVec.toNat_ofNat]
  have := w.isLt
  omega

/-- A word plus a signed displacement is the sum of the integers they stand for. -/
theorem add_sext16_eq_ofInt (w : Word) (e8 : Byte) : w + sext16 e8 = BitVec.ofInt 16 (w.toNat + e8.toInt) := by
  rw [BitVec.ofInt_add, BitVec.ofInt_natCast, BitVec.ofNat_toNat, BitVec.setWidth_eq]
  rfl

end Sys2Proof.Machine

open Sys2Proof Sys2Proof.Machine

/-- Settles O31: each of the three forms writes its register and moves PC on. -/
theorem loadsIntoRegisters : Obligations.LoadsIntoRegisters := by
  unfold Obligations.LoadsIntoRegisters
  exact fun s r q d8 => ⟨writesReg8_of_exec_keepF (exec_mkLd_reg_reg r q s), writesReg8_of_exec_keepF (exec_mkLd_reg_atHl r s),
    writesReg8_of_exec_keepF (exec_mkLdImm_reg r d8 s)⟩

/-- Settles O32: five forms write A, and the stepping forms HL as well. -/
theorem loadsIntoA : Obligations.LoadsIntoA := by
  unfold Obligations.LoadsIntoA
  intro s a8 a16
  simp only [← highPage_eq_ofNat]
  simp only [BitVec.sub_eq_add_neg]
  exact ⟨writesReg8_of_exec_keepF rfl, writesReg8_of_exec_keepF rfl, writesReg8_of_exec_keepF rfl, writesReg8_of_exec_keepF rfl,
    writesReg8_of_exec_keepF rfl, writesRegs_of_exec rfl, writesRegs_of_exec rfl⟩

/-- Settles O33: each form is one gated write and the move of PC, the stepping forms write HL too. -/
theorem byteStores : Obligations.ByteStores := by
  unfold Obligations.ByteStores
  intro s r d8 a8 a16
  simp only [← highPage_eq_ofNat, BitVec.sub_eq_add_neg]
  have step (d : Word) : storeAStep d s = ((memWrite s s.hl s.regs.a).setHl (s.hl + d)).advance 1 := by
    simp only [storeAStep, State.hl, memWrite_regs]
  have inc : exec .ldAtHlIncA s = .next (storeAStep 1 s) := rfl
  have dec : exec .ldAtHlDecA s = .next (storeAStep (-1) s) := rfl
  rw [step] at inc dec
  exact ⟨storesByte_of_exec (exec_mkLd_atHl_reg r s), storesByte_of_exec rfl, storesByte_of_exec rfl, storesByte_of_exec rfl,
    storesByte_of_exec_setHl inc, storesByte_of_exec_setHl dec, storesByte_of_exec rfl, storesByte_of_exec rfl,
    storesByte_of_exec rfl⟩

/-- Settles O34: each form writes the pair or SP and moves PC on. -/
theorem pairLoadsAndSteps : Obligations.PairLoadsAndSteps := by
  unfold Obligations.PairLoadsAndSteps
  intro s r d16
  have up : s.getR16 r + 1 = BitVec.ofNat 16 ((s.getR16 r).toNat + 1) := by bv_omega
  have down : s.getR16 r - 1 = BitVec.ofNat 16 ((s.getR16 r).toNat + 65535) := by bv_omega
  rw [← up, ← down]
  exact ⟨writesReg16_of_exec_keepF (exec_mkLd16 r d16 s), writesReg16_of_exec_keepF (r := .sp) rfl,
    writesReg16_of_exec_keepF (exec_mkInc16 r s), writesReg16_of_exec_keepF (exec_mkDec16 r s)⟩

/-- Settles O35: two gated writes of the halves of SP. -/
theorem storeOfSp : Obligations.StoreOfSp := by
  unfold Obligations.StoreOfSp
  intro s a16
  have next : BitVec.ofNat 16 (a16.toNat + 1) = a16 + 1 := by bv_omega
  rw [next, ← loByte_eq_ofNat, ← hiByte_eq_ofNat]
  refine ⟨_, rfl, storesTwoBytesAt_memWrite s _ _ _ _ _, ?_⟩
  simp only [storeSp, memWrite16, State.advance, State.setPc, State.nextPc, memWrite_regs]
  rfl

/-- Settles O36: the sum is signed, the flags are those of the low bytes. -/
theorem spPlusDisplacement : Obligations.SpPlusDisplacement := by
  unfold Obligations.SpPlusDisplacement
  intro s e8
  simp only [← add_sext16_eq_ofInt]
  exact ⟨writesReg16_of_exec (r := .hl) rfl (toByte_eq_flagByte rfl rfl rfl rfl),
    writesReg16_of_exec (r := .sp) rfl (toByte_eq_flagByte rfl rfl rfl rfl)⟩

/-- Settles O44: the sum and its flags are by integer arithmetic already. -/
theorem addToHl : Obligations.AddToHl := by
  unfold Obligations.AddToHl
  exact fun s r => writesReg16_of_exec (r := .hl) (exec_mkAddHl r s) (toByte_eq_flagByte rfl rfl rfl rfl)

end

section
/-! The stack (41_load16_stack.md R160, R166, R167), control transfer (45_control_flow.md) and the system instructions
(46_system.md). -/

namespace Sys2Proof.Machine

variable {s : State} {a : Word} {k : Nat}

/-! ### The stack -/

/-- PUSH is the push and the move of PC. -/
theorem pushReg_eq (p : Stk16) (s : State) : pushReg p s = (push16 (s.getStk p) s).setPc (s.nextPc 1) := by
  simp only [pushReg, State.advance, State.nextPc, push16_regs_pc]

theorem pushes_mkPush (p : Stk16) (s : State) : Pushes (mkPush p) s (s.getStk p) (s.regs.pc + 1) :=
  pushes_of_exec ((exec_mkPush p s).trans (congrArg _ (pushReg_eq p s)))

/-- POP writes the pair from the bytes at SP and SP + 1, and moves SP and PC. -/
theorem popReg_eq (p : Stk16) (s : State) :
    popReg p s =
      ((s.setSp (s.regs.sp + 2)).setStk p (wordOf (memRead s (s.regs.sp + 1)) (memRead s s.regs.sp))).advance 1 := by
  rw [popReg, pop16_snd_eq, pop16_fst]

/-- What a storage cell's key says of an address that names it: it is the address, or the address lies in the window of
external RAM, or in the echo of work RAM. -/
theorem target_cell_cases (h : target s a = .cell k) :
    k = a.toNat ∨ (0xA000 ≤ a.toNat ∧ a.toNat < 0xC000 ∧ k = extramBase + ramBank s.mbc * 0x2000 + a.toNat % 0x2000) ∨
      (0xE000 ≤ a.toNat ∧ a.toNat < 0xFE00 ∧ k + 0x2000 = a.toNat) := by
  simp only [target] at h
  repeat' split at h
  all_goals simp only [Target.cell.injEq, reduceCtorEq] at h
  all_goals omega

/-- Consecutive addresses name different cells. -/
theorem target_add_one_ne (h : target s a = .cell k) : target s (a + 1) ≠ .cell k := by
  intro h'
  have ge := ge_of_target_cell h'
  have next : (a + 1).toNat = a.toNat + 1 := by bv_omega
  have first := target_cell_cases h
  have second := target_cell_cases h'
  simp only [extramBase] at first second
  omega

/-- A push into two cells writes both. -/
theorem mem_of_pushed {t : State} {a1 a2 : Word} {k1 k2 : Nat} {v1 v2 : Byte} (hstore : StoresTwoBytesAt s t a1 v1 a2 v2)
    (hd1 : denied s a1 = false) (ht1 : target s a1 = .cell k1) (hd2 : denied s a2 = false) (ht2 : target s a2 = .cell k2) :
    t.mem = (s.mem.write k1 v1).write k2 v2 := by
  have second : memWrite (s.storeCell k1 v1) a2 v2 = (s.storeCell k1 v1).storeCell k2 v2 :=
    memWrite_of_target_cell v2 hd2 ht2
  rw [hstore.1, memWrite_of_target_cell v1 hd1 ht1, second]
  rfl

/-- The bytes a push left in two cells are the ones read back there. -/
theorem memRead_of_pushed {t : State} {k1 k2 : Nat} {v1 v2 : Byte}
    (hstore : StoresTwoBytesAt s t (s.regs.sp - 1) v1 (s.regs.sp - 2) v2)
    (hd1 : denied s (s.regs.sp - 1) = false) (ht1 : target s (s.regs.sp - 1) = .cell k1)
    (hd2 : denied s (s.regs.sp - 2) = false) (ht2 : target s (s.regs.sp - 2) = .cell k2) :
    memRead t (s.regs.sp - 1) = v1 ∧ memRead t (s.regs.sp - 2) = v2 := by
  obtain ⟨-, -, read, -⟩ := hstore
  have next : s.regs.sp - 2 + 1 = s.regs.sp - 1 := by bv_omega
  have other : target s (s.regs.sp - 1) ≠ .cell k2 := next ▸ target_add_one_ne ht2
  refine ⟨?_, ?_⟩
  · rw [read k1 k2 hd1 ht1 hd2 ht2, if_neg (fun h => other h.2), if_pos ⟨hd1, ht1⟩]
  · rw [read k1 k2 hd1 ht1 hd2 ht2, if_pos ⟨hd2, ht2⟩]

theorem and_0xF0_eq_self {b : Byte} (h : b.toNat % 16 = 0) : b &&& 0xF0 = b := by
  have low : b &&& 0x0F = 0 := (toNat_mod_16_eq_zero_iff b).1 h
  calc b &&& 0xF0 = (b &&& 0xF0) ||| (b &&& 0x0F) := by rw [low]; exact BitVec.or_zero.symm
    _ = b &&& (0xF0 ||| 0x0F) := BitVec.and_or_distrib_left.symm
    _ = b := BitVec.and_allOnes

/-- Writing a pair's own word back changes nothing, where F is a byte of four flags (R24). -/
theorem setStk_getStk (p : Stk16) (hf : s.regs.f.toNat % 16 = 0) : s.setStk p (s.getStk p) = s := by
  cases p with
  | bc => simp only [State.setStk, State.getStk, State.setBc, State.bc, hiByte_wordOf, loByte_wordOf]
  | de => simp only [State.setStk, State.getStk, State.setDe, State.de, hiByte_wordOf, loByte_wordOf]
  | hl => simp only [State.setStk, State.getStk, State.setHl, State.hl, hiByte_wordOf, loByte_wordOf]
  | af =>
    simp only [State.setStk, State.getStk, State.setAf, State.af, hiByte_wordOf, loByte_wordOf]
    rw [and_0xF0_eq_self hf]

/-! ### Control transfer -/

/-- A relative target is counted from the next instruction by integer arithmetic (R253). -/
theorem nextPc_add_sext16 (e8 : Byte) (s : State) :
    s.nextPc 2 + sext16 e8 = BitVec.ofInt 16 (s.regs.pc.toNat + 2 + e8.toInt) := by
  rw [BitVec.ofInt_add, BitVec.ofInt_add, BitVec.ofInt_natCast, BitVec.ofNat_toNat, BitVec.setWidth_eq]
  rfl

/-! ### The extended page -/

@[simp] theorem State.setOpd8_halted (s : State) (x : Opd8) (v : Byte) : (s.setOpd8 x v).halted = s.halted := by
  cases x with
  | reg r => exact s.setR8_halted r v
  | atHl => exact memWrite_halted s s.hl v

@[simp] theorem State.setOpd8_regs_sp (s : State) (x : Opd8) (v : Byte) : (s.setOpd8 x v).regs.sp = s.regs.sp := by
  cases x with
  | reg r => exact s.setR8_regs_sp r v
  | atHl => exact congrArg Regs.sp (memWrite_regs s s.hl v)

@[simp] theorem State.setOpd8_regs_pc (s : State) (x : Opd8) (v : Byte) : (s.setOpd8 x v).regs.pc = s.regs.pc := by
  cases x with
  | reg r => exact s.setR8_regs_pc r v
  | atHl => exact congrArg Regs.pc (memWrite_regs s s.hl v)

@[simp] theorem extendedPage_halted (op2 : Byte) (s : State) : (extendedPage op2 s).halted = s.halted := by
  unfold extendedPage
  split <;> simp [rotateOpd, bitTest, bitReset, bitSet]

@[simp] theorem extendedPage_regs_sp (op2 : Byte) (s : State) : (extendedPage op2 s).regs.sp = s.regs.sp := by
  unfold extendedPage
  split <;> simp [rotateOpd, bitTest, bitReset, bitSet]

@[simp] theorem extendedPage_regs_pc (op2 : Byte) (s : State) : (extendedPage op2 s).regs.pc = s.regs.pc + 2 := by
  unfold extendedPage
  split <;> simp [rotateOpd, bitTest, bitReset, bitSet, State.nextPc]

/-- What the fields of the second byte select is what they mean (R107, R274). -/
theorem exec_decodeExtended (op2 : Byte) (s : State) : exec (decodeExtended op2) s = .next (extendedPage op2 s) := by
  unfold decodeExtended extendedPage
  match fieldX op2 with
  | 0 => exact exec_mkRot _ _ s
  | 1 => exact exec_mkBit _ _ s
  | 2 => exact exec_mkRes _ _ s
  | _ + 3 => exact exec_mkSet _ _ s

end Sys2Proof.Machine

open Sys2Proof Sys2Proof.Machine

/-- Settles O37: PUSH is two gated writes below SP, POP two gated reads from SP on. -/
theorem pushAndPop : Obligations.PushAndPop := by
  unfold Obligations.PushAndPop
  intro s
  have pop (p : Stk16) := (exec_mkPop p s).trans (congrArg _ (popReg_eq p s))
  refine ⟨pushes_mkPush .bc s, pushes_mkPush .de s, pushes_mkPush .hl s, pushes_mkPush .af s,
    writesRegs_of_exec ((pop .bc).trans ?_), writesRegs_of_exec ((pop .de).trans ?_),
    writesRegs_of_exec ((pop .hl).trans ?_), writesRegs_of_exec ((pop .af).trans ?_)⟩
  all_goals
    simp only [State.setStk, State.setBc, State.setDe, State.setHl, State.setAf, hiByte_wordOf, loByte_wordOf]
    rfl

/-- Settles O38: the two cells differ and are read back, so POP writes the pair's own word. -/
theorem pushThenPopRestores : Obligations.PushThenPopRestores := by
  unfold Obligations.PushThenPopRestores
  intro s p k1 k2 hd1 ht1 hd2 ht2 hf
  obtain ⟨t, ht, hstore, hregs⟩ := pushes_mkPush p s
  obtain ⟨hi, lo⟩ := memRead_of_pushed hstore hd1 ht1 hd2 ht2
  have next : s.regs.sp - 2 + 1 = s.regs.sp - 1 := by bv_omega
  have back : s.regs.sp - 2 + 2 = s.regs.sp := by bv_omega
  have other : k1 ≠ k2 := fun h => target_add_one_ne (h ▸ ht2) (next ▸ ht1)
  have hmem := mem_of_pushed hstore hd1 ht1 hd2 ht2
  refine ⟨t, popReg p t, ht, exec_mkPop p t, ?_, ?_, ?_⟩
  · have hsp : t.regs.sp = s.regs.sp - 2 := by rw [hregs]
    have kept : (t.setSp s.regs.sp).getStk p = s.getStk p := by
      cases p <;> simp only [State.getStk, State.bc, State.de, State.hl, State.af, State.setSp, hregs]
    have low : (t.setSp s.regs.sp).regs.f.toNat % 16 = 0 := by simpa [hregs] using hf
    rw [popReg_eq, hsp, next, back, hi, lo, wordOf_hiByte_loByte, ← kept, setStk_getStk p low]
    simp only [State.advance, State.setPc, State.nextPc, State.setSp, hregs]
    exact congrArg (fun pc => { s.regs with pc := pc }) (BitVec.add_assoc s.regs.pc 1 1)
  · rw [hmem, Memory.read_write_ne _ _ _ _ other, Memory.read_write_same]
  · rw [hmem, Memory.read_write_same]

/-- Settles O48: a conditional jump is taken where the bit of F says so. -/
theorem jumps : Obligations.Jumps := by
  unfold Obligations.Jumps
  intro s cc a16 e8
  simp only [← nextPc_add_sext16]
  refine ⟨writesRegs_of_exec rfl, writesRegs_of_exec rfl, writesRegs_of_exec rfl, writesRegs_of_exec ?_,
    writesRegs_of_exec ?_⟩
  · rw [exec_mkJp, jumpAbsIf, State.cond_eq_condHolds]
    split <;> rfl
  · rw [exec_mkJr, jumpRelIf, State.cond_eq_condHolds]
    split <;> rfl

/-- Settles O49: a call is the push of the next instruction's address and a jump. -/
theorem calls : Obligations.Calls := by
  unfold Obligations.Calls
  intro s cc a16 y
  refine ⟨pushes_of_exec rfl, fun h => pushes_of_exec ?_, fun h => writesRegs_of_exec ?_, pushes_of_exec (exec_mkRst y s)⟩
  all_goals rw [exec_mkCall, callAbsIf, State.cond_eq_condHolds, h]
  · rfl
  · rfl

/-- Settles O50: a return is a pop of PC. -/
theorem returns : Obligations.Returns := by
  unfold Obligations.Returns
  intro s cc
  have near : returnNear s = { s with regs := { s.regs with
      sp := s.regs.sp + 2, pc := memRead s (s.regs.sp + 1) ++ memRead s s.regs.sp } } := by
    rw [returnNear, pop16_snd_eq]
    rfl
  refine ⟨writesRegs_of_exec (congrArg _ near), writesRegs_of_exec ?_, ?_, fun a => rfl⟩
  · rw [exec_mkRet, returnIf, State.cond_eq_condHolds]
    split
    · exact congrArg _ near
    · rfl
  · exact congrArg (fun u : State => (.next { u with ime := true } : Result)) near

/-- Settles O52: each meaning names what it changes. -/
theorem systemInstructions : Obligations.SystemInstructions := by
  unfold Obligations.SystemInstructions
  intro s pad op
  have ei : exec .ei s = .next (enableInterrupts s) := rfl
  refine ⟨rfl, rfl, fun h => ?_, fun h => ?_, rfl, rfl⟩
  · rw [ei, enableInterrupts, h]
    rfl
  · rw [ei, enableInterrupts, h]
    rfl

/-- Settles O53: the fields of the second byte select the instruction and its meaning alike. -/
theorem prefixPairIsOneInstruction : Obligations.PrefixPairIsOneInstruction := by
  unfold Obligations.PrefixPairIsOneInstruction
  intro op2 b s
  have length : byteLength (decodeExtended op2) = 2 := by rw [byteLength, encode_decodeExtended]; rfl
  exact ⟨(exec_decodeExtended op2 s).symm, length, _, rfl, extendedPage_regs_pc op2 s, extendedPage_regs_sp op2 s,
    extendedPage_ime op2 s, extendedPage_halted op2 s, extendedPage_fault op2 s⟩

end

section
/-! The accumulator operations, INC and DEC (42_alu8.md): results and flags by integer arithmetic. -/

namespace Sys2Proof.Machine

variable {s : State} {v f : Byte} {len : Nat} {form : AluOp → Instr}

/-! ### Bytes and flags by arithmetic -/

theorem ofNat_beq_zero (n : Nat) : (BitVec.ofNat 8 n == 0) = decide (n % 256 = 0) := by
  rw [Bool.beq_eq_decide_eq, decide_eq_decide, ← BitVec.toNat_inj, BitVec.toNat_ofNat]
  rfl

theorem beq_zero_eq_decide (b : Byte) : (b == 0) = decide (b.toNat = 0) := by
  rw [Bool.beq_eq_decide_eq, decide_eq_decide, ← BitVec.toNat_inj]
  rfl

/-- A bit as a number. -/
theorem toNat_getLsbD (b : Byte) (n : Nat) : (b.getLsbD n).toNat = b.toNat / 2 ^ n % 2 := Nat.toNat_testBit _ _

/-- C is bit 4 of F (R23). -/
theorem flags_c_toNat (s : State) : s.flags.c.toNat = s.regs.f.toNat / 16 % 2 := toNat_getLsbD s.regs.f 4

/-- The subtracter's byte is the difference modulo 256 (R195). -/
theorem sub8_fst (a b : Byte) (cin : Bool) : (sub8 a b cin).1 = BitVec.ofNat 8 (512 + a.toNat - b.toNat - cin.toNat) := by
  have ha := a.isLt
  have hb := b.isLt
  have hc := cin.toNat_lt
  apply BitVec.eq_of_toNat_eq
  simp only [sub8, BitVec.toNat_sub, BitVec.toNat_ofNat]
  omega

theorem sub8_false_fst (a b : Byte) : (sub8 a b false).1 = BitVec.ofNat 8 (256 + a.toNat - b.toNat) := by
  rw [sub8_fst]
  have := a.isLt
  have := b.isLt
  apply BitVec.eq_of_toNat_eq
  simp only [BitVec.toNat_ofNat, Bool.toNat_false]
  omega

theorem sub8_z (a b : Byte) (cin : Bool) :
    (sub8 a b cin).2.z = decide ((512 + a.toNat - b.toNat - cin.toNat) % 256 = 0) := by
  rw [← ofNat_beq_zero, ← sub8_fst]
  rfl

theorem sub8_false_z (a b : Byte) : (sub8 a b false).2.z = decide (a.toNat = b.toNat) := by
  rw [sub8_z, decide_eq_decide, Bool.toNat_false]
  have := a.isLt
  have := b.isLt
  omega

/-! ### The three operand forms -/

/-- Whatever the form of its operand, an accumulator operation writes A and the flags (R194). -/
theorem writesReg8_alu {op : AluOp} {res : Byte} (h : AluSource s form v len)
    (hres : (aluResult op s.regs.a v s.flags.c).1 = res) (hf : (aluResult op s.regs.a v s.flags.c).2.toByte = f) :
    WritesReg8 (form op) s .a res f len := by
  subst hres
  rcases h with ⟨r, rfl, rfl, rfl⟩ | ⟨rfl, rfl, rfl⟩ | ⟨rfl, rfl⟩
  · exact writesReg8_of_exec (exec_mkAlu op (.reg r) s) hf
  · exact writesReg8_of_exec (exec_mkAlu op .atHl s) hf
  · exact writesReg8_of_exec (exec_mkAluImm op v s) hf

theorem add_one_beq_zero (b : Byte) : (b + 1 == 0) = decide (b.toNat = 255) := by
  rw [beq_zero_eq_decide, decide_eq_decide]
  bv_omega

theorem sub_one_beq_zero (b : Byte) : (b - 1 == 0) = decide (b.toNat = 1) := by
  rw [beq_zero_eq_decide, decide_eq_decide]
  bv_omega

/-! ### DAA -/

/-- The correction of the low digit, by what the flags say or, after an addition, the digit itself (R190). -/
def daaLow (a : Byte) (fl : Flags) : Nat := if fl.h ∨ (fl.n = false ∧ a.toNat % 16 > 9) then 0x06 else 0

/-- The correction of the high digit. -/
def daaHigh (a : Byte) (fl : Flags) : Nat := if fl.c ∨ (fl.n = false ∧ a.toNat > 0x99) then 0x60 else 0

/-- DAA's result by arithmetic. -/
def daaArith (a : Byte) (fl : Flags) : Nat :=
  if fl.n then (256 + a.toNat - (daaLow a fl + daaHigh a fl)) % 256 else (a.toNat + daaLow a fl + daaHigh a fl) % 256

theorem daaAdjust_eq_ofNat (low high : Bool) :
    daaAdjust low high = BitVec.ofNat 8 ((if low then 0x06 else 0) + (if high then 0x60 else 0)) := by
  cases low <;> cases high <;> rfl

theorem daaLow_le (a : Byte) (fl : Flags) : daaLow a fl ≤ 0x06 := by
  unfold daaLow
  split <;> decide

theorem daaHigh_le (a : Byte) (fl : Flags) : daaHigh a fl ≤ 0x60 := by
  unfold daaHigh
  split <;> decide

theorem daaResult_fst (a : Byte) (fl : Flags) : (daaResult a fl).1 = BitVec.ofNat 8 (daaArith a fl) := by
  have ha : a.toNat < 256 := a.isLt
  have low := daaLow_le a fl
  have high := daaHigh_le a fl
  apply BitVec.eq_of_toNat_eq
  cases hn : fl.n with
  | true =>
    have adjust : daaAdjust fl.h fl.c = BitVec.ofNat 8 (daaLow a fl + daaHigh a fl) := by
      simp [daaAdjust_eq_ofNat, daaLow, daaHigh, hn]
    simp only [daaResult, daaArith, hn, if_true, adjust, BitVec.toNat_sub, BitVec.toNat_ofNat]
    omega
  | false =>
    have adjust : daaAdjust (fl.h || decide (a.toNat % 16 > 9)) (fl.c || decide (a.toNat > 0x99)) =
        BitVec.ofNat 8 (daaLow a fl + daaHigh a fl) := by
      simp [daaAdjust_eq_ofNat, daaLow, daaHigh, hn]
    simp only [daaResult, daaArith, hn, Bool.false_eq_true, if_false, adjust, BitVec.toNat_add, BitVec.toNat_ofNat]
    omega

theorem daaArith_lt (a : Byte) (fl : Flags) : daaArith a fl < 256 := by
  unfold daaArith
  split <;> exact Nat.mod_lt _ (by decide)

theorem daaResult_z (a : Byte) (fl : Flags) : (daaResult a fl).2.z = decide (daaArith a fl = 0) := by
  have from_byte : (daaResult a fl).2.z = ((daaResult a fl).1 == 0) := by
    unfold daaResult
    split <;> rfl
  rw [from_byte, daaResult_fst, ofNat_beq_zero, Nat.mod_eq_of_lt (daaArith_lt a fl)]

theorem daaResult_c (a : Byte) (fl : Flags) : (daaResult a fl).2.c = (fl.c || (!fl.n && decide (a.toNat > 0x99))) := by
  unfold daaResult
  cases fl.n <;> simp

theorem daaResult_n (a : Byte) (fl : Flags) : (daaResult a fl).2.n = fl.n := by
  unfold daaResult
  split <;> rfl

theorem daaResult_h (a : Byte) (fl : Flags) : (daaResult a fl).2.h = false := by
  unfold daaResult
  split <;> rfl

/-! ### Packed decimals -/

theorem daaResult_fst_toNat (a : Byte) (fl : Flags) : (daaResult a fl).1.toNat = daaArith a fl := by
  rw [daaResult_fst, BitVec.toNat_ofNat, Nat.mod_eq_of_lt (daaArith_lt a fl)]

/-- After an addition of packed decimals DAA corrects each digit that is above 9, and C is the decimal carry. -/
theorem daa_add8 {a d : Byte} (c : Bool) (ha : IsBcd a) (hd : IsBcd d) :
    let u := daaResult (add8 a d c).1 (add8 a d c).2
    IsBcd u.1 ∧ bcdValue u.1 + 100 * u.2.c.toNat = bcdValue a + bcdValue d + c.toNat := by
  have hcin := c.toNat_lt
  have sum : (add8 a d c).1.toNat = (a.toNat + d.toNat + c.toNat) % 256 := BitVec.toNat_ofNat _ _
  have hn : (add8 a d c).2.n = false := rfl
  have hh : (add8 a d c).2.h = decide (a.toNat % 16 + d.toNat % 16 + c.toNat ≥ 0x10) := rfl
  have hc : (add8 a d c).2.c = decide (a.toNat + d.toNat + c.toNat ≥ 0x100) := rfl
  generalize add8 a d c = r at sum hn hh hc ⊢
  unfold IsBcd at ha hd
  have low : daaLow r.1 r.2 = if a.toNat % 16 + d.toNat % 16 + c.toNat > 9 then 0x06 else 0 := by
    simp only [daaLow, sum, hn, hh, decide_eq_true_eq, true_and]
    exact if_congr (by omega) rfl rfl
  have high : daaHigh r.1 r.2 = if a.toNat + d.toNat + c.toNat > 0x99 then 0x60 else 0 := by
    simp only [daaHigh, sum, hn, hc, decide_eq_true_eq, true_and]
    exact if_congr (by omega) rfl rfl
  have carry : (daaResult r.1 r.2).2.c = decide (a.toNat + d.toNat + c.toNat > 0x99) := by
    rw [daaResult_c, sum, hn, hc, Bool.eq_iff_iff]
    simp
    omega
  simp only [IsBcd, bcdValue, daaResult_fst_toNat, carry, daaArith, low, high, sum, hn, Bool.false_eq_true, if_false]
  by_cases hlow : a.toNat % 16 + d.toNat % 16 + c.toNat > 9 <;> by_cases hhigh : a.toNat + d.toNat + c.toNat > 0x99 <;>
    simp only [hlow, hhigh, if_true, if_false, decide_true, decide_false, Bool.toNat_true, Bool.toNat_false] <;> omega

/-- After a subtraction it corrects each digit that borrowed, and C is the decimal borrow. -/
theorem daa_sub8 {a d : Byte} (c : Bool) (ha : IsBcd a) (hd : IsBcd d) :
    let u := daaResult (sub8 a d c).1 (sub8 a d c).2
    IsBcd u.1 ∧ bcdValue u.1 + bcdValue d + c.toNat = bcdValue a + 100 * u.2.c.toNat := by
  have hcin := c.toNat_lt
  have difference : (sub8 a d c).1.toNat = (512 + a.toNat - d.toNat - c.toNat) % 256 := by rw [sub8_fst, BitVec.toNat_ofNat]
  have hn : (sub8 a d c).2.n = true := rfl
  have hh : (sub8 a d c).2.h = decide (a.toNat % 16 < d.toNat % 16 + c.toNat) := rfl
  have hc : (sub8 a d c).2.c = decide (a.toNat < d.toNat + c.toNat) := rfl
  generalize sub8 a d c = r at difference hn hh hc ⊢
  unfold IsBcd at ha hd
  have low : daaLow r.1 r.2 = if a.toNat % 16 < d.toNat % 16 + c.toNat then 0x06 else 0 := by simp [daaLow, hn, hh]
  have high : daaHigh r.1 r.2 = if a.toNat < d.toNat + c.toNat then 0x60 else 0 := by simp [daaHigh, hn, hc]
  have borrow : (daaResult r.1 r.2).2.c = decide (a.toNat < d.toNat + c.toNat) := by simp [daaResult_c, hn, hc]
  simp only [IsBcd, bcdValue, daaResult_fst_toNat, borrow, daaArith, low, high, difference, hn, if_true]
  by_cases hlow : a.toNat % 16 < d.toNat % 16 + c.toNat <;> by_cases hhigh : a.toNat < d.toNat + c.toNat <;>
    simp only [hlow, hhigh, if_true, if_false, decide_true, decide_false, Bool.toNat_true, Bool.toNat_false] <;> omega

theorem aluImm_a_flags (op : AluOp) (d : Byte) (s : State) :
    ((aluImm op d s).regs.a, (aluImm op d s).flags) = aluResult op s.regs.a d s.flags.c :=
  Prod.ext rfl (Flags.ofByte_toByte _)

theorem decimalAdjust_a_flags (s : State) :
    ((decimalAdjust s).regs.a, (decimalAdjust s).flags) = daaResult s.regs.a s.flags :=
  Prod.ext rfl (Flags.ofByte_toByte _)

/-- An accumulator operation with an immediate, then DAA. -/
theorem exec_mkAluImm_daa (op : AluOp) (d : Byte) (s : State) :
    ∃ t u, exec (mkAluImm op d) s = .next t ∧ exec .daa t = .next u ∧
      (u.regs.a, u.flags) = daaResult (aluResult op s.regs.a d s.flags.c).1 (aluResult op s.regs.a d s.flags.c).2 := by
  refine ⟨_, _, exec_mkAluImm op d s, rfl, ?_⟩
  rw [← aluImm_a_flags]
  exact decimalAdjust_a_flags (aluImm op d s)

end Sys2Proof.Machine

open Sys2Proof Sys2Proof.Machine

/-- Settles O39: the adder's and the subtracter's bytes and flags by integer arithmetic, C being bit 4 of F. -/
theorem accumulatorArithmetic : Obligations.AccumulatorArithmetic := by
  unfold Obligations.AccumulatorArithmetic
  intro s form v len h
  simp only [← flags_c_toNat]
  exact ⟨writesReg8_alu h rfl (toByte_eq_flagByte (ofNat_beq_zero _) rfl rfl rfl),
    writesReg8_alu h rfl (toByte_eq_flagByte (ofNat_beq_zero _) rfl rfl rfl),
    writesReg8_alu h (sub8_false_fst _ _) (toByte_eq_flagByte (sub8_false_z _ _) rfl rfl rfl),
    writesReg8_alu h (sub8_fst _ _ _) (toByte_eq_flagByte (sub8_z _ _ _) rfl rfl rfl),
    writesReg8_alu h rfl (toByte_eq_flagByte (sub8_false_z _ _) rfl rfl rfl)⟩

/-- Settles O40: the bitwise results, zero as the operation says. -/
theorem accumulatorLogic : Obligations.AccumulatorLogic := by
  unfold Obligations.AccumulatorLogic
  intro s form v len h
  have zero_and : (s.regs.a &&& v == 0) = decide (s.regs.a &&& v = 0) := Bool.beq_eq_decide_eq _ _
  have zero_xor : (s.regs.a ^^^ v == 0) = decide (s.regs.a = v) :=
    (Bool.beq_eq_decide_eq _ _).trans (decide_eq_decide.2 BitVec.xor_eq_zero_iff)
  have zero_or : (s.regs.a ||| v == 0) = decide (s.regs.a = 0 ∧ v = 0) :=
    (Bool.beq_eq_decide_eq _ _).trans (decide_eq_decide.2 BitVec.or_eq_zero_iff)
  exact ⟨writesReg8_alu h rfl (toByte_eq_flagByte zero_and rfl rfl rfl),
    writesReg8_alu h rfl (toByte_eq_flagByte zero_xor rfl rfl rfl),
    writesReg8_alu h rfl (toByte_eq_flagByte zero_or rfl rfl rfl)⟩

/-- Settles O41: the operand is written once, C is kept. -/
theorem incrementAndDecrement : Obligations.IncrementAndDecrement := by
  unfold Obligations.IncrementAndDecrement
  exact fun s r => ⟨
    writesReg8_of_exec (exec_mkInc8 (.reg r) s) (toByte_eq_flagByte (add_one_beq_zero _) rfl rfl rfl),
    writesReg8_of_exec (exec_mkDec8 (.reg r) s) (toByte_eq_flagByte (sub_one_beq_zero _) rfl rfl rfl),
    storesByte_of_exec_setFlags (exec_mkInc8 .atHl s) (toByte_eq_flagByte (add_one_beq_zero _) rfl rfl rfl),
    storesByte_of_exec_setFlags (exec_mkDec8 .atHl s) (toByte_eq_flagByte (sub_one_beq_zero _) rfl rfl rfl)⟩

/-- Settles O42: DAA by arithmetic, the others as they stand. -/
theorem accumulatorAdjustments : Obligations.AccumulatorAdjustments := by
  unfold Obligations.AccumulatorAdjustments
  intro s
  have cpl : ~~~s.regs.a = BitVec.ofNat 8 (255 - s.regs.a.toNat) := by bv_omega
  refine ⟨?_, ?_, writesReg8_of_exec (r := .a) rfl (toByte_eq_flagByte rfl rfl rfl rfl),
    writesReg8_of_exec (r := .a) rfl (toByte_eq_flagByte rfl rfl rfl rfl)⟩
  · exact daaResult_fst s.regs.a s.flags ▸ writesReg8_of_exec (r := .a) (v := (daaResult s.regs.a s.flags).1) rfl
      (toByte_eq_flagByte (daaResult_z _ _) (daaResult_n _ _) (daaResult_h _ _) (daaResult_c _ _))
  · exact cpl ▸ writesReg8_of_exec (r := .a) (v := ~~~s.regs.a) rfl (toByte_eq_flagByte rfl rfl rfl rfl)

/-- Settles O43: DAA's corrections of a sum or a difference of packed decimals are those of its decimal digits. -/
theorem daaGivesDecimalResults : Obligations.DaaGivesDecimalResults := by
  unfold Obligations.DaaGivesDecimalResults
  refine fun s d ha hd => ⟨fun i c hi => ?_, fun i c hi => ?_⟩
  · have sum (op : AluOp) (cin : Bool) (hop : aluResult op s.regs.a d s.flags.c = add8 s.regs.a d cin) :
        ∃ t u, exec (mkAluImm op d) s = .next t ∧ exec .daa t = .next u ∧ IsBcd u.regs.a ∧
          bcdValue u.regs.a + 100 * u.flags.c.toNat = bcdValue s.regs.a + bcdValue d + cin.toNat := by
      obtain ⟨t, u, ht, hu, result⟩ := exec_mkAluImm_daa op d s
      have decimal := daa_add8 cin ha hd
      rw [← hop, ← result] at decimal
      exact ⟨t, u, ht, hu, decimal⟩
    rcases hi with hi | hi <;> cases hi
    · exact sum .add false rfl
    · exact sum .adc s.flags.c rfl
  · have difference (op : AluOp) (cin : Bool) (hop : aluResult op s.regs.a d s.flags.c = sub8 s.regs.a d cin) :
        ∃ t u, exec (mkAluImm op d) s = .next t ∧ exec .daa t = .next u ∧ IsBcd u.regs.a ∧
          bcdValue u.regs.a + bcdValue d + cin.toNat = bcdValue s.regs.a + 100 * u.flags.c.toNat := by
      obtain ⟨t, u, ht, hu, result⟩ := exec_mkAluImm_daa op d s
      have decimal := daa_sub8 cin ha hd
      rw [← hop, ← result] at decimal
      exact ⟨t, u, ht, hu, decimal⟩
    rcases hi with hi | hi <;> cases hi
    · exact difference .sub false rfl
    · exact difference .sbc s.flags.c rfl


end

section
/-! Rotates, shifts and bits (44_rotate_shift_bit.md): the bit movements as arithmetic. -/

namespace Sys2Proof.Machine

/-! ### Rotates and shifts -/

theorem toNat_append {m n : Nat} (x : BitVec m) (y : BitVec n) :
    (x ++ y).toNat = x.toNat * 2 ^ n + y.toNat := by
  rw [BitVec.toNat_append, ← Nat.shiftLeft_add_eq_or_of_lt y.isLt, Nat.shiftLeft_eq]

theorem toNat_extractLsb' (a : Byte) (start len : Nat) :
    (a.extractLsb' start len).toNat = a.toNat / 2 ^ start % 2 ^ len := by
  rw [BitVec.extractLsb'_toNat, Nat.shiftRight_eq_div_pow]

theorem rotResult_fst_toNat (op : RotOp) (a : Byte) (carry : Bool) :
    (rotResult op a carry).1.toNat = (rotArith op a.toNat carry.toNat).1 := by
  have ha := a.isLt
  cases op
  all_goals
    refine (toNat_append _ _).trans ?_
    simp only [toNat_extractLsb', BitVec.toNat_ofBool, toNat_getLsbD, show (0 : BitVec 1).toNat = 0 from rfl, rotArith]
    omega

theorem rotResult_snd (op : RotOp) (a : Byte) (carry : Bool) :
    (rotResult op a carry).2 = decide ((rotArith op a.toNat carry.toNat).2 = 1) := by
  have ha := a.isLt
  have top : a.getLsbD 7 = decide (a.toNat / 128 = 1) := by
    rw [getLsbD_eq_decide, decide_eq_decide]
    omega
  have bottom : a.getLsbD 0 = decide (a.toNat % 2 = 1) := by
    rw [getLsbD_eq_decide, Nat.pow_zero, Nat.div_one]
  cases op
  case rlc | rl | sla => exact top
  case rrc | rr | sra | srl => exact bottom
  case swap => rfl

theorem rotResult_fst (op : RotOp) (a : Byte) (carry : Bool) :
    (rotResult op a carry).1 = BitVec.ofNat 8 (rotArith op a.toNat carry.toNat).1 := by
  rw [← rotResult_fst_toNat, BitVec.ofNat_toNat, BitVec.setWidth_eq]

theorem rotResult_fst_beq_zero (op : RotOp) (a : Byte) (carry : Bool) :
    ((rotResult op a carry).1 == 0) = decide ((rotArith op a.toNat carry.toNat).1 = 0) := by
  rw [beq_zero_eq_decide, rotResult_fst_toNat]

/-! ### Bits -/

theorem bitMask_eq_ofNat (b : Octal) : bitMask b.toNat = BitVec.ofNat 8 (2 ^ b.toNat) := by cases b <;> rfl

/-- A byte holds of a mask of one bit either all or nothing. -/
theorem and_bitMask (v : Byte) (n : Nat) : v &&& bitMask n = if v.toNat / 2 ^ n % 2 = 1 then bitMask n else 0 := by
  have mask : bitMask n = BitVec.twoPow 8 n := (BitVec.twoPow_eq 8 n).symm
  rw [mask, BitVec.and_twoPow, getLsbD_eq_decide]
  simp only [decide_eq_true_eq]
  rfl

/-- A byte is its part outside a mask plus its part inside. -/
theorem and_not_add_and (v m : Byte) : (v &&& ~~~m) + (v &&& m) = v := by
  have disjoint : (v &&& ~~~m) &&& (v &&& m) = 0 := by
    ext i
    cases hm : m[i] <;> simp [hm]
  rw [BitVec.add_eq_or_of_and_eq_zero _ _ disjoint, ← BitVec.and_or_distrib_left, BitVec.not_or_self,
    BitVec.and_allOnes]

/-- RES subtracts the mask of a set bit (R233). -/
theorem and_not_bitMask (v : Byte) (b : Octal) :
    v &&& ~~~(bitMask b.toNat) = if v.toNat / 2 ^ b.toNat % 2 = 1 then v - BitVec.ofNat 8 (2 ^ b.toNat) else v := by
  have whole := and_not_add_and v (bitMask b.toNat)
  rw [and_bitMask] at whole
  rw [← bitMask_eq_ofNat]
  split at whole
  next set =>
    rw [if_pos set]
    exact BitVec.eq_sub_iff_add_eq.2 whole
  next clear =>
    rw [if_neg clear]
    exact (BitVec.add_zero _).symm.trans whole

/-- SET adds the mask of a clear bit (R234). -/
theorem or_bitMask (v : Byte) (b : Octal) :
    v ||| bitMask b.toNat = if v.toNat / 2 ^ b.toNat % 2 = 1 then v else v + BitVec.ofNat 8 (2 ^ b.toNat) := by
  have part := and_bitMask v b.toNat
  rw [← bitMask_eq_ofNat]
  split at part
  next set =>
    rw [if_pos set]
    calc v ||| bitMask b.toNat = v ||| (v &&& bitMask b.toNat) := by rw [part]
      _ = v := by
        ext i
        simp only [BitVec.getElem_or, BitVec.getElem_and, Bool.or_eq_left_iff_imp, Bool.and_eq_true, and_imp]
        exact fun set _ => set
  next clear =>
    rw [if_neg clear]
    exact (BitVec.add_eq_or_of_and_eq_zero _ _ part).symm

end Sys2Proof.Machine

open Sys2Proof Sys2Proof.Machine

/-- Settles O45: the byte and the bit shifted out by arithmetic, Z kept or cleared. -/
theorem accumulatorRotates : Obligations.AccumulatorRotates := by
  unfold Obligations.AccumulatorRotates
  intro s i op hi
  have rotate : exec i s = .next (rotateA op s) := by
    simp only [List.mem_cons, List.not_mem_nil, or_false, Prod.mk.injEq] at hi
    rcases hi with ⟨rfl, rfl⟩ | ⟨rfl, rfl⟩ | ⟨rfl, rfl⟩ | ⟨rfl, rfl⟩ <;> rfl
  have z : (rotAFlags s.params.rotaClearsZ s.flags (rotResult op s.regs.a s.flags.c).2).z =
      (s.flags.z && !s.params.rotaClearsZ) := by
    cases hp : s.params.rotaClearsZ <;> simp [rotAFlags]
  simp only [← rotResult_fst]
  exact writesReg8_of_exec rotate (toByte_eq_flagByte z rfl rfl (rotResult_snd _ _ _))

/-- Settles O46: the operand is written once with the byte by arithmetic. -/
theorem extendedRotatesAndShifts : Obligations.ExtendedRotatesAndShifts := by
  unfold Obligations.ExtendedRotatesAndShifts
  intro s op r
  have flags (a : Byte) := toByte_eq_flagByte
    (fl := rotFlags (rotResult op a s.flags.c).1 (rotResult op a s.flags.c).2)
    (rotResult_fst_beq_zero _ _ _) rfl rfl (rotResult_snd _ _ _)
  simp only [← rotResult_fst]
  exact ⟨writesReg8_of_exec (exec_mkRot op (.reg r) s) (flags _),
    storesByte_of_exec_setFlags (exec_mkRot op .atHl s) (flags _)⟩

/-- Settles O47: clearing a set bit subtracts its mask, setting a clear one adds it. -/
theorem bitInstructions : Obligations.BitInstructions := by
  unfold Obligations.BitInstructions
  intro s b r
  have z (v : Byte) : (!v.getLsbD b.toNat) = decide (¬ v.toNat / 2 ^ b.toNat % 2 = 1) := by
    rw [getLsbD_eq_decide, decide_not]
  simp only [← and_not_bitMask, ← or_bitMask]
  exact ⟨writesReg8_of_exec (exec_mkBit b (.reg r) s) (toByte_eq_flagByte (z _) rfl rfl rfl),
    writesReg8_of_exec (exec_mkBit b .atHl s) (toByte_eq_flagByte (z _) rfl rfl rfl),
    writesReg8_of_exec_keepF (exec_mkRes b (.reg r) s), storesByte_of_exec (exec_mkRes b .atHl s),
    writesReg8_of_exec_keepF (exec_mkSet b (.reg r) s), storesByte_of_exec (exec_mkSet b .atHl s)⟩

end
